-- ==== Sys2Proof/Word.lean ====
section
/-! DEFINITION. The words of the block: one-bit levels and the fixed-width vectors (spec R9, R63, R70). -/

namespace Sys2Proof

/-- A one-bit value, "also read as a boolean: `1` is true" (R9). -/
abbrev Bit := Bool

/-- The stimulus word `STIM` = `{rst, pin}` that the environment presents at one tick (R64). -/
abbrev StimWord := BitVec 2

/-- The event code `ev[1:0]` and the width of the `EVT` register (R70). -/
abbrev EventCode := BitVec 2

/-- Number of a list of bits, most significant bit first (R9: `{a, b}` has `a` in the more significant place). -/
def bitsToNat (bits : List Bit) : Nat :=
  bits.foldl (fun acc b => 2 * acc + b.toNat) 0

end Sys2Proof
end

