-- ==== Sys2Proof/Config.lean ====
section
/-! DEFINITION. The implementation parameters of one block (spec R6, R7, R8), its reference configuration, and the
one free value of the model (what the environment presents after the pending words). -/

namespace Sys2Proof

/-- `PWM_STRATEGY` (R6): compare output mode, or two compare events. R122 and R123 give both the same waveform. -/
inductive PwmStrategy where
  | HW
  | SW
deriving DecidableEq, Repr

/-- The parameters of R6, under their names there. They are constant for the life of a block (R8).
A counter's parameter is a natural number because R10 computes on naturals. -/
structure Config where
  /-- Debounce window in ticks (`DEBOUNCE_TICKS`). -/
  N : Nat
  /-- PWM period top value: the PWM counter runs `0..PERIOD`. -/
  PERIOD : Nat
  /-- Duty increment per Press. -/
  STEP : Nat
  /-- Largest duty a step may reach. -/
  CEILING : Nat
  /-- Starting duty cycle. -/
  D0 : Nat
  /-- Active (pressed) pin level. -/
  ACT : Bit
  /-- Release events emitted (1) or suppressed (0). -/
  EMIT_RELEASE : Bit
  PWM_STRATEGY : PwmStrategy
  /-- Width of `TCNT`. -/
  TIMER_W : Nat
  /-- Width of `DUTY` and `PCNT`. -/
  DUTY_W : Nat
deriving DecidableEq, Repr

/-- The seven domain conditions of R7, in its order. The refusal `IllFormedConfig` records one (R127). -/
inductive ConfigCondition where
  | nAtLeastOne
  | periodAtLeastOne
  | stepAtLeastOne
  | ceilingAtMostPeriod
  | d0AtMostPeriod
  | timerWidthHoldsN
  | dutyWidthHoldsPeriod
deriving DecidableEq, Repr

namespace Config

/-- The reference values of R6. DESIGN CHOICE (log 2): R6 leaves `N`, `TIMER_W` and `DUTY_W` open; the values here are
the ones the spec's own test vectors use (95_test_vectors.md: `N = 3`; 2.9: `TIMER_W = 2`, `DUTY_W = 10`). Only
`State.reset` reads this; every statement speaks of any configuration. -/
def reference : Config where
  N := 3
  PERIOD := 999
  STEP := 100
  CEILING := 900
  D0 := 499
  ACT := false
  EMIT_RELEASE := true
  PWM_STRATEGY := .HW
  TIMER_W := 2
  DUTY_W := 10

/-- FREE VALUE (log 4). The stimulus word the environment presents at a tick for which no word is pending, by tick
number: R139 lets the environment present any word at every tick, and U12, U13 (93_implementation_defined.md) give
"any value". It has no body, so nothing can be proved of which word it is. -/
opaque freeStimulus : Nat → StimWord

end Config

end Sys2Proof
end

