-- ==== Sys2Proof/Syntax.lean ====
section
/-! DEFINITION. The operations of the block: one constructor of `Instr` per row of spec/opcode_table.json, the
operations of each decode vector as a type of their own, and the statements of a stimulus program (R63, R78, R79). -/

namespace Sys2Proof

/-- The one external format and the six internal decode vectors, in the order of R63's table. -/
inductive Format where
  | STIM
  | EDSEL
  | DBSEL
  | DMSEL
  | PCSEL
  | PWSEL
  | OUTSEL
deriving DecidableEq, Repr

/-- Width in bits (R63, R77: every format has a fixed width). -/
def Format.width : Format → Nat
  | .STIM => 2
  | .EDSEL => 3
  | .DBSEL => 4
  | .DMSEL => 3
  | .PCSEL => 1
  | .PWSEL => 2
  | .OUTSEL => 1

/-- A value offered to the decoder in one format. -/
structure RawWord where
  format : Format
  value : Nat
deriving DecidableEq, Repr

/-- The operations, one constructor per row of spec/opcode_table.json. A bit that a row's pattern writes `x` ("a bit
whose value is ignored", R9) is an operand, so that no bit of a word is lost; its name is the table's name of the bit. -/
inductive Instr where
  | rst (pin : Bit)
  | t0
  | t1
  | edRise
  | edFall
  | edSteady0 (arm : Bit)
  | edSteady1 (arm : Bit)
  | edIgnoreRise
  | edIgnoreFall
  | dbEdge (trun last matching : Bit)
  | dbCount (matching : Bit)
  | dbExpireConfirm
  | dbExpireReject
  | dbIdle (last matching : Bit)
  | dmHold (fits : Bit)
  | dmPressStep
  | dmPressWrap
  | dmRelease (fits : Bit)
  | dmReserved (fits : Bit)
  | pcInc
  | pcWrap
  | pwClear (setBit : Bit)
  | pwSet
  | pwHold
  | outPwm
  | outLatch
deriving DecidableEq, Repr

/-- The operations `STIM` selects (R64). -/
inductive StimOp where
  | rst (pin : Bit)
  | t0
  | t1
deriving DecidableEq, Repr

/-- The operations `EDSEL` selects (R66). -/
inductive EdOp where
  | rise
  | fall
  | steady0 (arm : Bit)
  | steady1 (arm : Bit)
  | ignoreRise
  | ignoreFall
deriving DecidableEq, Repr

/-- The operations `DBSEL` selects (R67). -/
inductive DbOp where
  | edge (trun last matching : Bit)
  | count (matching : Bit)
  | expireConfirm
  | expireReject
  | idle (last matching : Bit)
deriving DecidableEq, Repr

/-- The operations `DMSEL` selects (R68). -/
inductive DmOp where
  | hold (fits : Bit)
  | pressStep
  | pressWrap
  | release (fits : Bit)
  | reserved (fits : Bit)
deriving DecidableEq, Repr

/-- The operations `PCSEL` selects (R69). -/
inductive PcOp where
  | inc
  | wrap
deriving DecidableEq, Repr

/-- The operations `PWSEL` selects (R72). -/
inductive PwOp where
  | clear (setBit : Bit)
  | set
  | hold
deriving DecidableEq, Repr

/-- The operations `OUTSEL` selects (R73). -/
inductive OutOp where
  | pwm
  | latch
deriving DecidableEq, Repr

def StimOp.toInstr : StimOp → Instr
  | .rst pin => .rst pin
  | .t0 => .t0
  | .t1 => .t1

def EdOp.toInstr : EdOp → Instr
  | .rise => .edRise
  | .fall => .edFall
  | .steady0 arm => .edSteady0 arm
  | .steady1 arm => .edSteady1 arm
  | .ignoreRise => .edIgnoreRise
  | .ignoreFall => .edIgnoreFall

def DbOp.toInstr : DbOp → Instr
  | .edge trun last matching => .dbEdge trun last matching
  | .count matching => .dbCount matching
  | .expireConfirm => .dbExpireConfirm
  | .expireReject => .dbExpireReject
  | .idle last matching => .dbIdle last matching

def DmOp.toInstr : DmOp → Instr
  | .hold fits => .dmHold fits
  | .pressStep => .dmPressStep
  | .pressWrap => .dmPressWrap
  | .release fits => .dmRelease fits
  | .reserved fits => .dmReserved fits

def PcOp.toInstr : PcOp → Instr
  | .inc => .pcInc
  | .wrap => .pcWrap

def PwOp.toInstr : PwOp → Instr
  | .clear setBit => .pwClear setBit
  | .set => .pwSet
  | .hold => .pwHold

def OutOp.toInstr : OutOp → Instr
  | .pwm => .outPwm
  | .latch => .outLatch

/-- The mnemonic of an operation's row in spec/opcode_table.json. -/
def Instr.mnemonic : Instr → String
  | .rst _ => "RST"
  | .t0 => "T0"
  | .t1 => "T1"
  | .edRise => "ED_RISE"
  | .edFall => "ED_FALL"
  | .edSteady0 _ => "ED_STEADY0"
  | .edSteady1 _ => "ED_STEADY1"
  | .edIgnoreRise => "ED_IGNORE_RISE"
  | .edIgnoreFall => "ED_IGNORE_FALL"
  | .dbEdge _ _ _ => "DB_EDGE"
  | .dbCount _ => "DB_COUNT"
  | .dbExpireConfirm => "DB_EXPIRE_CONFIRM"
  | .dbExpireReject => "DB_EXPIRE_REJECT"
  | .dbIdle _ _ => "DB_IDLE"
  | .dmHold _ => "DM_HOLD"
  | .dmPressStep => "DM_PRESS_STEP"
  | .dmPressWrap => "DM_PRESS_WRAP"
  | .dmRelease _ => "DM_RELEASE"
  | .dmReserved _ => "DM_RESERVED"
  | .pcInc => "PC_INC"
  | .pcWrap => "PC_WRAP"
  | .pwClear _ => "PW_CLEAR"
  | .pwSet => "PW_SET"
  | .pwHold => "PW_HOLD"
  | .outPwm => "OUT_PWM"
  | .outLatch => "OUT_LATCH"

/-- A statement of a stimulus program (R78) or one of its pseudo-instructions with its count (R79; without `*k`
the count is 1). -/
inductive Stmt where
  | rst
  | t0 (k : Nat)
  | t1 (k : Nat)
  | press (k : Nat)
  | rel (k : Nat)
deriving DecidableEq, Repr

end Sys2Proof
end

