-- ==== Sys2Proof/WellFormed.lean ====
section
/-! DEFINITION. Which terms of the syntax are well formed. Every operand of `Instr` is one bit and every bit is legal
(R75 (c): no stimulus word is illegal), so the checks are on the words offered to the decoder and on a program's counts. -/

namespace Sys2Proof

/-- A value of a format fits the format's fixed width (R63, R77). -/
def RawWord.wf (r : RawWord) : Bool := decide (r.value < 2 ^ r.format.width)

/-- R79: a repeat count is a natural number `k >= 1`. -/
def Stmt.wf : Stmt → Bool
  | .rst => true
  | .t0 k => decide (1 ≤ k)
  | .t1 k => decide (1 ≤ k)
  | .press k => decide (1 ≤ k)
  | .rel k => decide (1 ≤ k)

end Sys2Proof
end

