-- ==== Sys2Proof/Decode.lean ====
section
/-! DEFINITION. The encodings of 30_encoding.md: event codes (R70), the decoder of every format (R64, R66 to R69, R72,
R73), total and rejecting by name, the encoder, and the opcode table with its `match`/`mask` rows (R82). -/

namespace Sys2Proof

/-! ### Event codes (R70). `0b11` is reserved: no rule produces it. -/

def Event.NONE : EventCode := 0b00#2
def Event.PRESS : EventCode := 0b01#2
def Event.RELEASE : EventCode := 0b10#2
def Event.RESERVED : EventCode := 0b11#2

/-! ### The decoder, one function per format -/

/-- R64: `STIM = {rst, pin}`. -/
def decodeStim (w : BitVec 2) : StimOp :=
  match w.getLsbD 1, w.getLsbD 0 with
  | true, pin => .rst pin
  | false, false => .t0
  | false, true => .t1

/-- R66: `EDSEL = {S.ARM, S.PIN_Q, pin}`. -/
def decodeEdsel (w : BitVec 3) : EdOp :=
  match w.getLsbD 2, w.getLsbD 1, w.getLsbD 0 with
  | true, false, true => .rise
  | false, true, false => .fall
  | arm, false, false => .steady0 arm
  | arm, true, true => .steady1 arm
  | false, false, true => .ignoreRise
  | true, true, false => .ignoreFall

/-- R67: `DBSEL = {det, S.TRUN, last, match}`. -/
def decodeDbsel (w : BitVec 4) : DbOp :=
  match w.getLsbD 3, w.getLsbD 2, w.getLsbD 1, w.getLsbD 0 with
  | true, trun, last, matching => .edge trun last matching
  | false, true, false, matching => .count matching
  | false, true, true, true => .expireConfirm
  | false, true, true, false => .expireReject
  | false, false, last, matching => .idle last matching

/-- R68: `DMSEL = {ev[1:0], fits}`. -/
def decodeDmsel (w : BitVec 3) : DmOp :=
  match w.getLsbD 2, w.getLsbD 1, w.getLsbD 0 with
  | false, false, fits => .hold fits
  | false, true, true => .pressStep
  | false, true, false => .pressWrap
  | true, false, fits => .release fits
  | true, true, fits => .reserved fits

/-- R69: `PCSEL = {top}`. -/
def decodePcsel (w : BitVec 1) : PcOp :=
  match w.getLsbD 0 with
  | false => .inc
  | true => .wrap

/-- R72: `PWSEL = {clr, set}`; "the clear wins when both hold". -/
def decodePwsel (w : BitVec 2) : PwOp :=
  match w.getLsbD 1, w.getLsbD 0 with
  | true, setBit => .clear setBit
  | false, true => .set
  | false, false => .hold

/-- R73: `OUTSEL = {OEN}`. -/
def decodeOutsel (w : BitVec 1) : OutOp :=
  match w.getLsbD 0 with
  | true => .pwm
  | false => .latch

/-- Why the decoder refuses a value: it has a bit above its format's width (R77). Nothing else is refused, since the
rows of each format cover every value of the format (R74). -/
inductive DecodeError where
  | tooWide (format : Format) (value : Nat)
deriving DecidableEq, Repr

/-- The operation of a value that fits its format. -/
def decodeValue (f : Format) (v : Nat) : Instr :=
  match f with
  | .STIM => (decodeStim (BitVec.ofNat 2 v)).toInstr
  | .EDSEL => (decodeEdsel (BitVec.ofNat 3 v)).toInstr
  | .DBSEL => (decodeDbsel (BitVec.ofNat 4 v)).toInstr
  | .DMSEL => (decodeDmsel (BitVec.ofNat 3 v)).toInstr
  | .PCSEL => (decodePcsel (BitVec.ofNat 1 v)).toInstr
  | .PWSEL => (decodePwsel (BitVec.ofNat 2 v)).toInstr
  | .OUTSEL => (decodeOutsel (BitVec.ofNat 1 v)).toInstr

/-- The decoder: total on any format and any number. -/
def decode (r : RawWord) : Except DecodeError Instr :=
  if r.wf then .ok (decodeValue r.format r.value) else .error (.tooWide r.format r.value)

/-! ### The encoder -/

/-- A word from its bits, most significant first. -/
def rawOfBits (f : Format) (bits : List Bit) : RawWord := ⟨f, bitsToNat bits⟩

/-- The word of an operation, from the patterns of R64, R66 to R69, R72 and R73. -/
def encode : Instr → RawWord
  | .rst pin => rawOfBits .STIM [true, pin]
  | .t0 => rawOfBits .STIM [false, false]
  | .t1 => rawOfBits .STIM [false, true]
  | .edRise => rawOfBits .EDSEL [true, false, true]
  | .edFall => rawOfBits .EDSEL [false, true, false]
  | .edSteady0 arm => rawOfBits .EDSEL [arm, false, false]
  | .edSteady1 arm => rawOfBits .EDSEL [arm, true, true]
  | .edIgnoreRise => rawOfBits .EDSEL [false, false, true]
  | .edIgnoreFall => rawOfBits .EDSEL [true, true, false]
  | .dbEdge trun last matching => rawOfBits .DBSEL [true, trun, last, matching]
  | .dbCount matching => rawOfBits .DBSEL [false, true, false, matching]
  | .dbExpireConfirm => rawOfBits .DBSEL [false, true, true, true]
  | .dbExpireReject => rawOfBits .DBSEL [false, true, true, false]
  | .dbIdle last matching => rawOfBits .DBSEL [false, false, last, matching]
  | .dmHold fits => rawOfBits .DMSEL [false, false, fits]
  | .dmPressStep => rawOfBits .DMSEL [false, true, true]
  | .dmPressWrap => rawOfBits .DMSEL [false, true, false]
  | .dmRelease fits => rawOfBits .DMSEL [true, false, fits]
  | .dmReserved fits => rawOfBits .DMSEL [true, true, fits]
  | .pcInc => rawOfBits .PCSEL [false]
  | .pcWrap => rawOfBits .PCSEL [true]
  | .pwClear setBit => rawOfBits .PWSEL [true, setBit]
  | .pwSet => rawOfBits .PWSEL [false, true]
  | .pwHold => rawOfBits .PWSEL [false, false]
  | .outPwm => rawOfBits .OUTSEL [true]
  | .outLatch => rawOfBits .OUTSEL [false]

/-! ### The opcode table -/

/-- A row of the opcode table (R82): a value `v` of the format matches when `(v & mask) == pattern`. -/
structure OpcodeRow where
  mnemonic : String
  format : Format
  mask : Nat
  pattern : Nat
deriving DecidableEq, Repr

def OpcodeRow.selects (row : OpcodeRow) (r : RawWord) : Bool :=
  decide (row.format = r.format) && decide (r.value &&& row.mask = row.pattern)

def stimRows : List OpcodeRow :=
  [⟨"RST", .STIM, 2, 2⟩, ⟨"T0", .STIM, 3, 0⟩, ⟨"T1", .STIM, 3, 1⟩]

def edRows : List OpcodeRow :=
  [⟨"ED_RISE", .EDSEL, 7, 5⟩, ⟨"ED_FALL", .EDSEL, 7, 2⟩, ⟨"ED_STEADY0", .EDSEL, 3, 0⟩,
   ⟨"ED_STEADY1", .EDSEL, 3, 3⟩, ⟨"ED_IGNORE_RISE", .EDSEL, 7, 1⟩, ⟨"ED_IGNORE_FALL", .EDSEL, 7, 6⟩]

def dbRows : List OpcodeRow :=
  [⟨"DB_EDGE", .DBSEL, 8, 8⟩, ⟨"DB_COUNT", .DBSEL, 14, 4⟩, ⟨"DB_EXPIRE_CONFIRM", .DBSEL, 15, 7⟩,
   ⟨"DB_EXPIRE_REJECT", .DBSEL, 15, 6⟩, ⟨"DB_IDLE", .DBSEL, 12, 0⟩]

def dmRows : List OpcodeRow :=
  [⟨"DM_HOLD", .DMSEL, 6, 0⟩, ⟨"DM_PRESS_STEP", .DMSEL, 7, 3⟩, ⟨"DM_PRESS_WRAP", .DMSEL, 7, 2⟩,
   ⟨"DM_RELEASE", .DMSEL, 6, 4⟩, ⟨"DM_RESERVED", .DMSEL, 6, 6⟩]

def pwmRows : List OpcodeRow :=
  [⟨"PC_INC", .PCSEL, 1, 0⟩, ⟨"PC_WRAP", .PCSEL, 1, 1⟩, ⟨"PW_CLEAR", .PWSEL, 2, 2⟩,
   ⟨"PW_SET", .PWSEL, 3, 1⟩, ⟨"PW_HOLD", .PWSEL, 3, 0⟩, ⟨"OUT_PWM", .OUTSEL, 1, 1⟩,
   ⟨"OUT_LATCH", .OUTSEL, 1, 0⟩]

/-- spec/opcode_table.json, row for row. -/
def opcodeTable : List OpcodeRow := stimRows ++ edRows ++ dbRows ++ dmRows ++ pwmRows

/-! ### The host's numbering -/

/-- The formats in R63's order. -/
def formatsInOrder : List Format := [.STIM, .EDSEL, .DBSEL, .DMSEL, .PCSEL, .PWSEL, .OUTSEL]

/-- DESIGN CHOICE (log 9): the table's rows of different formats share numbers and the host's numbering names no format,
so a bare number is read in the first format of R63, in its order, whose width holds it: a number below 4 is a stimulus
word (the only external format, R64), 4 to 7 an `EDSEL` value, 8 to 15 a `DBSEL` value. -/
def formatOfNumber (w : Nat) : Option Format :=
  formatsInOrder.find? (fun f => decide (w < 2 ^ f.width))

/-- The instruction the decoder reads from the number of an opcode-table word; `none` where no format holds it. -/
def decodeTableWord (_nbits w : Nat) : Option Instr :=
  match formatOfNumber w with
  | none => none
  | some f =>
    match decode ⟨f, w⟩ with
    | .ok i => some i
    | .error _ => none

end Sys2Proof
end

