-- ==== Sys2Proof/Machine/State.lean ====
section
/-! DEFINITION. The state of the block as plain data (R25), its fault and refusal reasons (R127), and the state after
reset (R143, R144). -/

namespace Sys2Proof.Machine

/-- The clauses of R47, by their letters. -/
inductive Clause where
  | a
  | b
  | c
  | d
  | e
  | f
  | g
  | h
deriving DecidableEq, Repr

/-- The fault reasons of R127, with the value each records. The list is closed ("a model must not add a reason
silently"). A fault is raised into the state (`State.fault`); a state that holds one "takes no further step" (R125), and
`exec` and `step` answer it there. -/
inductive Fault where
  /-- Raised by DM_RESERVED (R109); records the `DMSEL` value. Safe: R127 says no run from reset reaches it. -/
  | reservedEvent (dmsel : BitVec 3)
  /-- Raised at the start of a non-reset tick (T0, T1) in a state that breaks a clause of R47; records the clause.
  Safe: R127 says no run from reset reaches it. -/
  | invariantBroken (clause : Clause)
deriving DecidableEq, Repr

/-- The refusal reasons. -/
inductive Refusal where
  /-- Raised by nobody: every instruction has its meaning. It stands here because the host's form asks for it. Safe. -/
  | notModelled (mnemonic : String)
  /-- Raised by every instruction in a state whose configuration breaks a domain condition of R7: "the configuration has
  no step at all". Records the condition (R127). Safe: "refusing a configuration errs toward unprovable" (R7). -/
  | illFormedConfig (condition : ConfigCondition)
deriving DecidableEq, Repr

/-- The internal signals one operation of a tick hands to a later one: the sampled level `pin`, the detector's verdict
`det` and the event code `ev` (R11, R84). They are wires of one tick, "not state": the model holds them so that one
operation can be run by itself, and every tick ends with them idle. -/
structure Signals where
  pin : Bit
  det : Bit
  ev : EventCode
deriving DecidableEq, Repr

/-- No tick in progress. -/
def Signals.idle : Signals := ⟨false, false, Event.NONE⟩

/-- The state: the registers of R25 under their names there, then the model's own fields. -/
structure State where
  /-- The parameters of this block (R6). Not registers (R44): no operation writes them (R8). -/
  cfg : Config
  /-- Armed edge: 0 = FALLING, 1 = RISING (R26). -/
  ARM : Bit
  /-- Debounce timer running (R27). -/
  TRUN : Bit
  /-- Ticks since the last restart of the debounce timer (R28); `TIMER_W` bits. -/
  TCNT : Nat
  /-- Pin level sampled at the previous tick (R29). -/
  PIN_Q : Bit
  /-- Edge pending flag (R30). -/
  EIFG : Bit
  /-- Debounce expiry pending flag (R31). -/
  TIFG : Bit
  /-- Event code of the most recent tick (R32). -/
  EVT : EventCode
  /-- Duty-cycle register (R33); `DUTY_W` bits. -/
  DUTY : Nat
  /-- Output enable (R34). -/
  OEN : Bit
  /-- Plain output bit of the PWM pin (R35). -/
  PLAT : Bit
  /-- "Pressed" indicator (R36). -/
  IND : Bit
  /-- Toggled output (R37). -/
  TOG : Bit
  /-- PWM period counter (R38); `DUTY_W` bits. -/
  PCNT : Nat
  /-- PWM waveform level (R39). -/
  PQ : Bit
  /-- `FAULT` and the reason it records (R40, R125): the flag is 1 exactly when a reason is held. -/
  fault : Option Fault
  /-- Signals of the tick in progress (R84); idle at every tick boundary. -/
  sig : Signals
  /-- Level on the `pwm_out` line as the latest output selection drove it (R119, R120). -/
  pwmOut : Bit
  /-- Stimulus words the environment is about to present, the next one first (R64, R78). -/
  stim : List StimWord
  /-- How many ticks have been taken (R80 numbers them); no operation reads it but the choice of a free stimulus word. -/
  ticks : Nat
deriving DecidableEq, Repr

namespace State

/-- The `FAULT` flag (R40). -/
def FAULT (s : State) : Bit := s.fault.isSome

/-- The reset state of a configuration (R143, R144): also the block's state at power-on. -/
def powerOn (c : Config) : State where
  cfg := c
  ARM := c.ACT
  TRUN := false
  TCNT := 0
  PIN_Q := !c.ACT
  EIFG := false
  TIFG := false
  EVT := Event.NONE
  DUTY := c.D0
  OEN := decide (c.D0 ≠ 0)
  PLAT := false
  IND := false
  TOG := false
  PCNT := 0
  PQ := decide (c.D0 ≠ 0)
  fault := none
  sig := Signals.idle
  pwmOut := decide (c.D0 ≠ 0)
  stim := []
  ticks := 0

/-- The machine right after reset: the reset state of the reference configuration (R6, R144), nothing pending. -/
def reset : State := powerOn Config.reference

end State

end Sys2Proof.Machine
end

