-- ==== Sys2Proof/Machine/Ops.lean ====
section
/-! DEFINITION. The named operations over the state: one write per register, register widths, the configuration check
(R7), the invariant clauses (R47), raising a fault (R125, the block's only "exception"), the frame every operation runs
in, and the presentation of stimulus words (R64). The block has no memory (R50), so there is no memory operation. -/

namespace Sys2Proof.Machine

/-! ### Widths -/

/-- What a `w`-bit register holds after `v` is written to it: the low `w` bits. Under a well-formed configuration no
operation of a tick writes a value that does not fit (R93, R106, R114), so nothing is ever cut (log 10). -/
def fitWidth (w v : Nat) : Nat := v % 2 ^ w

namespace State

/-! ### One write per register (R25) -/

def setARM (s : State) (b : Bit) : State := { s with ARM := b }
def setTRUN (s : State) (b : Bit) : State := { s with TRUN := b }
def setTCNT (s : State) (v : Nat) : State := { s with TCNT := fitWidth s.cfg.TIMER_W v }
def setEIFG (s : State) (b : Bit) : State := { s with EIFG := b }
def setTIFG (s : State) (b : Bit) : State := { s with TIFG := b }
def setDUTY (s : State) (v : Nat) : State := { s with DUTY := fitWidth s.cfg.DUTY_W v }
def setOEN (s : State) (b : Bit) : State := { s with OEN := b }
def setPLAT (s : State) (b : Bit) : State := { s with PLAT := b }
def setIND (s : State) (b : Bit) : State := { s with IND := b }
def setTOG (s : State) (b : Bit) : State := { s with TOG := b }
def setPCNT (s : State) (v : Nat) : State := { s with PCNT := fitWidth s.cfg.DUTY_W v }
def setPQ (s : State) (b : Bit) : State := { s with PQ := b }

/-! ### Signals of the tick (R11, R84) and the output line -/

def setPin (s : State) (b : Bit) : State := { s with sig := { s.sig with pin := b } }
def setDet (s : State) (b : Bit) : State := { s with sig := { s.sig with det := b } }
def setEv (s : State) (e : EventCode) : State := { s with sig := { s.sig with ev := e } }
def setPwmOut (s : State) (b : Bit) : State := { s with pwmOut := b }

/-- The end of a tick: `PIN_Q <- pin` and `EVT <- ev` (R85, R97), and the signals fall idle. -/
def latchTick (s : State) : State :=
  { s with PIN_Q := s.sig.pin, EVT := s.sig.ev, sig := Signals.idle }

/-! ### Taking a fault -/

/-- `raise Fault(reason)`: `FAULT <- 1` and the reason is recorded (R125). Nothing else is saved or changed: there is no
handler, no vector, no mode and no return (R126, R130, R131). -/
def raise (s : State) (f : Fault) : State := { s with fault := some f }

/-! ### Stimulus -/

/-- The word presented at the next tick: the first pending one, or a free one when none is pending (R139, log 4). -/
def nextWord (s : State) : StimWord :=
  match s.stim with
  | w :: _ => w
  | [] => Config.freeStimulus s.ticks

/-- The next word is taken and one more tick counted. -/
def advance (s : State) : State := { s with stim := s.stim.tail, ticks := s.ticks + 1 }

/-- The environment presents `w` at the next tick, ahead of any pending word (R139: its only move). -/
def present (s : State) (w : StimWord) : State := { s with stim := w :: s.stim }

end State

/-! ### The configuration check -/

/-- A domain condition of R7. -/
def conditionHolds (c : Config) : ConfigCondition → Bool
  | .nAtLeastOne => decide (1 ≤ c.N)
  | .periodAtLeastOne => decide (1 ≤ c.PERIOD)
  | .stepAtLeastOne => decide (1 ≤ c.STEP)
  | .ceilingAtMostPeriod => decide (c.CEILING ≤ c.PERIOD)
  | .d0AtMostPeriod => decide (c.D0 ≤ c.PERIOD)
  | .timerWidthHoldsN => decide (c.N ≤ 2 ^ c.TIMER_W)
  | .dutyWidthHoldsPeriod => decide (c.PERIOD < 2 ^ c.DUTY_W)

/-- The conditions in the order R7 lists them. -/
def conditionsInOrder : List ConfigCondition :=
  [.nAtLeastOne, .periodAtLeastOne, .stepAtLeastOne, .ceilingAtMostPeriod, .d0AtMostPeriod, .timerWidthHoldsN,
   .dutyWidthHoldsPeriod]

/-- The first condition of R7 a configuration breaks, if any. -/
def brokenCondition (c : Config) : Option ConfigCondition :=
  conditionsInOrder.find? (fun k => !conditionHolds c k)

/-! ### The invariant check -/

/-- A clause of R47 in a state. -/
def clauseHolds (s : State) : Clause → Bool
  | .a => decide (s.TCNT ≤ s.cfg.N - 1)
  | .b => s.TRUN || decide (s.TCNT = 0)
  | .c => !s.EIFG && !s.TIFG
  | .d => decide (s.EVT ≠ Event.RESERVED)
  | .e => decide (s.DUTY ≤ s.cfg.PERIOD)
  | .f => s.OEN == decide (s.DUTY ≠ 0)
  | .g => !s.PLAT
  | .h => decide (s.PCNT ≤ s.cfg.PERIOD)

def clausesInOrder : List Clause := [.a, .b, .c, .d, .e, .f, .g, .h]

/-- The first clause of R47, in the order of its letters, that a state breaks, if any (log 7). -/
def brokenClause (s : State) : Option Clause :=
  clausesInOrder.find? (fun k => !clauseHolds s k)

/-! ### The frame of every operation -/

/-- Every operation runs in this frame: an ill-formed configuration "has no step at all" (R7), and a faulted state
"takes no further step of any kind" (R125); otherwise the operation's effect gives the next state. -/
def guarded (s : State) (effect : State → State) : Host.Outcome State Fault Refusal :=
  match brokenCondition s.cfg with
  | some k => .refused (.illFormedConfig k)
  | none =>
    match s.fault with
    | some f => .fault f
    | none => .next (effect s)

/-- One operation after another; a fault or a refusal of the first is the outcome of both. -/
def andThen (o : Host.Outcome State Fault Refusal) (k : State → Host.Outcome State Fault Refusal) :
    Host.Outcome State Fault Refusal :=
  match o with
  | .next s => k s
  | .fault f => .fault f
  | .refused r => .refused r

end Sys2Proof.Machine
end

