-- ==== Sys2Proof/Machine/Operands.lean ====
section
/-! DEFINITION. Operand assembly: the internal signals of a tick and the decode vectors built from them (R65 to R69,
R72, R73). Each is read from the state of the phase that evaluates it. Log 5 says why that state's registers are the
start-of-tick values `S` (or the `F'` values) the rules name. -/

namespace Sys2Proof.Machine

/-- `last = (S.TCNT + 1 >= N)` (R67). -/
def last (s : State) : Bit := decide (s.cfg.N ≤ s.TCNT + 1)

/-- `match = (pin == S.ARM)` (R67). -/
def matching (s : State) : Bit := s.sig.pin == s.ARM

/-- `fits = (S.DUTY + STEP <= CEILING)`, on naturals without wrap (R68, R104). -/
def fits (s : State) : Bit := decide (s.DUTY + s.cfg.STEP ≤ s.cfg.CEILING)

/-- `top = (S.PCNT >= PERIOD)` (R69). -/
def top (s : State) : Bit := decide (s.cfg.PERIOD ≤ s.PCNT)

/-- `clr = (PCNT' == DUTY')` (R72). -/
def clrSig (s : State) : Bit := decide (s.PCNT = s.DUTY)

/-- `set = (PCNT' == 0)` (R72). -/
def setSig (s : State) : Bit := decide (s.PCNT = 0)

/-- `EDSEL = {S.ARM, S.PIN_Q, pin}` (R66). -/
def edsel (s : State) : BitVec 3 :=
  BitVec.ofBool s.ARM ++ BitVec.ofBool s.PIN_Q ++ BitVec.ofBool s.sig.pin

/-- `DBSEL = {det, S.TRUN, last, match}` (R67). -/
def dbsel (s : State) : BitVec 4 :=
  BitVec.ofBool s.sig.det ++ BitVec.ofBool s.TRUN ++ BitVec.ofBool (last s) ++ BitVec.ofBool (matching s)

/-- `DMSEL = {ev[1:0], fits}` (R68). -/
def dmsel (s : State) : BitVec 3 := s.sig.ev ++ BitVec.ofBool (fits s)

/-- `PCSEL = {top}` (R69). -/
def pcsel (s : State) : BitVec 1 := BitVec.ofBool (top s)

/-- `PWSEL = {clr, set}` (R72). -/
def pwsel (s : State) : BitVec 2 := BitVec.ofBool (clrSig s) ++ BitVec.ofBool (setSig s)

/-- `OUTSEL = {OEN}` of the state whose outputs are read (R73). -/
def outsel (s : State) : BitVec 1 := BitVec.ofBool s.OEN

end Sys2Proof.Machine
end

