-- ==== Sys2Proof/Machine/Flags.lean ====
section
/-! DEFINITION. The flags and the event code: the pending flags' discipline (R89, R94, R149) and the classification of a
confirmed transition (R96). -/

namespace Sys2Proof.Machine

/-- A detected edge: `det = 1; EIFG <- 1` (R86, R87). -/
def detectEdge (s : State) : State := (s.setDet true).setEIFG true

/-- No detected edge: `det = 0` (R88). -/
def noEdge (s : State) : State := s.setDet false

/-- `EIFG <- 0`, the handler's first action (R89). -/
def clearEdgePending (s : State) : State := s.setEIFG false

/-- `TIFG <- 1; TIFG <- 0`: the expiry is pending and is cleared before anything else (R94, R95). -/
def takeExpiry (s : State) : State := (s.setTIFG true).setTIFG false

/-- `classify(a)` (R96): the event of a confirmed transition, by the edge `a` that was armed. -/
def classify (c : Config) (a : Bit) : EventCode :=
  if a = c.ACT then Event.PRESS
  else if c.EMIT_RELEASE then Event.RELEASE
  else Event.NONE

end Sys2Proof.Machine
end

