-- ==== Sys2Proof/Machine/EdgeDetector.lean ====
section
/-! DEFINITION. The edge detector: the operations of `EDSEL` (R86 to R88) and phase 1 of a tick. -/

namespace Sys2Proof.Machine

/-- ED_RISE (R86): a detected rising edge. -/
def edRiseEffect (s : State) : State := detectEdge s

/-- ED_FALL (R87): a detected falling edge. -/
def edFallEffect (s : State) : State := detectEdge s

/-- ED_STEADY0 (R88): the pin stayed 0. -/
def edSteady0Effect (s : State) : State := noEdge s

/-- ED_STEADY1 (R88): the pin stayed 1. -/
def edSteady1Effect (s : State) : State := noEdge s

/-- ED_IGNORE_RISE (R88): a rise while the falling edge is armed is not detected. -/
def edIgnoreRiseEffect (s : State) : State := noEdge s

/-- ED_IGNORE_FALL (R88): a fall while the rising edge is armed is not detected. -/
def edIgnoreFallEffect (s : State) : State := noEdge s

def execEdRise (s : State) : Host.Outcome State Fault Refusal := guarded s edRiseEffect
def execEdFall (s : State) : Host.Outcome State Fault Refusal := guarded s edFallEffect
def execEdSteady0 (s : State) : Host.Outcome State Fault Refusal := guarded s edSteady0Effect
def execEdSteady1 (s : State) : Host.Outcome State Fault Refusal := guarded s edSteady1Effect
def execEdIgnoreRise (s : State) : Host.Outcome State Fault Refusal := guarded s edIgnoreRiseEffect
def execEdIgnoreFall (s : State) : Host.Outcome State Fault Refusal := guarded s edIgnoreFallEffect

def edEffect : EdOp → State → State
  | .rise, s => edRiseEffect s
  | .fall, s => edFallEffect s
  | .steady0 _, s => edSteady0Effect s
  | .steady1 _, s => edSteady1Effect s
  | .ignoreRise, s => edIgnoreRiseEffect s
  | .ignoreFall, s => edIgnoreFallEffect s

/-- Phase 1 (R85): exactly one of ED_*, selected by `EDSEL`; it gives `det`. -/
def edgePhase (s : State) : State := edEffect (decodeEdsel (edsel s)) s

end Sys2Proof.Machine
end

