-- ==== Sys2Proof/Machine/Debounce.lean ====
section
/-! DEFINITION. The debounce operations of `DBSEL` (R90 to R95) and phase 2 of a tick. -/

namespace Sys2Proof.Machine

/-- DB_IDLE (R91): `ev = NONE`, no register written. -/
def dbIdleEffect (s : State) : State := s.setEv Event.NONE

/-- DB_EDGE (R92): the pending flag is cleared first, then the timer restarts from zero. -/
def dbEdgeEffect (s : State) : State :=
  (((clearEdgePending s).setTCNT 0).setTRUN true).setEv Event.NONE

/-- DB_COUNT (R93): one tick of the window elapses. -/
def dbCountEffect (s : State) : State := (s.setTCNT (s.TCNT + 1)).setEv Event.NONE

/-- The timer stops at its expiry (R94, R95): `TRUN <- 0` and `TCNT <- 0`. -/
def stopTimer (s : State) : State := (s.setTRUN false).setTCNT 0

/-- DB_EXPIRE_CONFIRM (R94): the armed edge flips and the transition is classified by the edge that was armed. -/
def dbExpireConfirmEffect (s : State) : State :=
  ((stopTimer (takeExpiry s)).setARM (!s.ARM)).setEv (classify s.cfg s.ARM)

/-- DB_EXPIRE_REJECT (R95): the armed edge is unchanged and nothing is emitted. -/
def dbExpireRejectEffect (s : State) : State := (stopTimer (takeExpiry s)).setEv Event.NONE

def execDbEdge (s : State) : Host.Outcome State Fault Refusal := guarded s dbEdgeEffect
def execDbCount (s : State) : Host.Outcome State Fault Refusal := guarded s dbCountEffect
def execDbExpireConfirm (s : State) : Host.Outcome State Fault Refusal := guarded s dbExpireConfirmEffect
def execDbExpireReject (s : State) : Host.Outcome State Fault Refusal := guarded s dbExpireRejectEffect
def execDbIdle (s : State) : Host.Outcome State Fault Refusal := guarded s dbIdleEffect

def dbEffect : DbOp → State → State
  | .edge _ _ _, s => dbEdgeEffect s
  | .count _, s => dbCountEffect s
  | .expireConfirm, s => dbExpireConfirmEffect s
  | .expireReject, s => dbExpireRejectEffect s
  | .idle _ _, s => dbIdleEffect s

/-- Phase 2 (R85): exactly one of DB_*, selected by `DBSEL`; it gives `ev`. -/
def debouncePhase (s : State) : State := dbEffect (decodeDbsel (dbsel s)) s

end Sys2Proof.Machine
end

