-- ==== Sys2Proof/Machine/DutyMux.lean ====
section
/-! DEFINITION. The event mux and the duty step/wrap register: the operations of `DMSEL` (R102 to R109) and phase 3 of a
tick. -/

namespace Sys2Proof.Machine

/-- The discrete outputs of every PRESS (R105): `IND <- 1` and `TOG <- 1 - TOG`. -/
def pressOutputs (s : State) : State := (s.setIND true).setTOG (!s.TOG)

/-- DM_HOLD (R103): no register written. -/
def dmHoldEffect (s : State) : State := s

/-- DM_PRESS_STEP (R106): the duty rises by `STEP` and the output is enabled. -/
def dmPressStepEffect (s : State) : State :=
  pressOutputs ((s.setDUTY (s.DUTY + s.cfg.STEP)).setOEN true)

/-- DM_PRESS_WRAP (R107): the duty returns to 0 with both disablement actions. -/
def dmPressWrapEffect (s : State) : State :=
  pressOutputs (((s.setDUTY 0).setOEN false).setPLAT false)

/-- DM_RELEASE (R108): the indicator goes off. -/
def dmReleaseEffect (s : State) : State := s.setIND false

/-- DM_RESERVED (R109): `raise Fault(ReservedEvent)`, recording the `DMSEL` value `{1, 1, fits}` (R127). -/
def dmReservedEffect (fits : Bit) (s : State) : State :=
  s.raise (.reservedEvent (Event.RESERVED ++ BitVec.ofBool fits))

def execDmHold (s : State) : Host.Outcome State Fault Refusal := guarded s dmHoldEffect
def execDmPressStep (s : State) : Host.Outcome State Fault Refusal := guarded s dmPressStepEffect
def execDmPressWrap (s : State) : Host.Outcome State Fault Refusal := guarded s dmPressWrapEffect
def execDmRelease (s : State) : Host.Outcome State Fault Refusal := guarded s dmReleaseEffect
def execDmReserved (fits : Bit) (s : State) : Host.Outcome State Fault Refusal := guarded s (dmReservedEffect fits)

def dmEffect : DmOp → State → State
  | .hold _, s => dmHoldEffect s
  | .pressStep, s => dmPressStepEffect s
  | .pressWrap, s => dmPressWrapEffect s
  | .release _, s => dmReleaseEffect s
  | .reserved fits, s => dmReservedEffect fits s

/-- Phase 3 (R85, R102): exactly one of DM_*, selected by `DMSEL` from the `ev` of phase 2. -/
def dutyPhase (s : State) : State := dmEffect (decodeDmsel (dmsel s)) s

end Sys2Proof.Machine
end

