-- ==== Sys2Proof/Machine/Pwm.lean ====
section
/-! DEFINITION. The PWM waveform generator: the operations of `PCSEL` (R114, R115) and `PWSEL` (R116 to R118), phases 4
and 5 of a tick. Both values of `PWM_STRATEGY` give this one waveform (R122, R123). -/

namespace Sys2Proof.Machine

/-- PC_INC (R114). -/
def pcIncEffect (s : State) : State := s.setPCNT (s.PCNT + 1)

/-- PC_WRAP (R115): the explicit wrap at `PERIOD`. -/
def pcWrapEffect (s : State) : State := s.setPCNT 0

/-- PW_CLEAR (R116): the duty threshold is reached. -/
def pwClearEffect (s : State) : State := s.setPQ false

/-- PW_SET (R117): period start. -/
def pwSetEffect (s : State) : State := s.setPQ true

/-- PW_HOLD (R118): no register written. -/
def pwHoldEffect (s : State) : State := s

def execPcInc (s : State) : Host.Outcome State Fault Refusal := guarded s pcIncEffect
def execPcWrap (s : State) : Host.Outcome State Fault Refusal := guarded s pcWrapEffect
def execPwClear (s : State) : Host.Outcome State Fault Refusal := guarded s pwClearEffect
def execPwSet (s : State) : Host.Outcome State Fault Refusal := guarded s pwSetEffect
def execPwHold (s : State) : Host.Outcome State Fault Refusal := guarded s pwHoldEffect

def pcEffect : PcOp → State → State
  | .inc, s => pcIncEffect s
  | .wrap, s => pcWrapEffect s

def pwEffect : PwOp → State → State
  | .clear _, s => pwClearEffect s
  | .set, s => pwSetEffect s
  | .hold, s => pwHoldEffect s

/-- Phase 4 (R85): one of PC_*, selected by `PCSEL`. -/
def counterPhase (s : State) : State := pcEffect (decodePcsel (pcsel s)) s

/-- Phase 5 (R85): one of PW_*, selected by `PWSEL` from `PCNT'` and `DUTY'`. -/
def latchPhase (s : State) : State := pwEffect (decodePwsel (pwsel s)) s

end Sys2Proof.Machine
end

