-- ==== Sys2Proof/Machine/OutputMux.lean ====
section
/-! DEFINITION. The output mux: the operations of `OUTSEL` (R119, R120), run whenever `pwm_out` is read. -/

namespace Sys2Proof.Machine

/-- OUT_PWM (R119): `pwm_out = PQ`. -/
def outPwmEffect (s : State) : State := s.setPwmOut s.PQ

/-- OUT_LATCH (R120): `pwm_out = PLAT`. -/
def outLatchEffect (s : State) : State := s.setPwmOut s.PLAT

def execOutPwm (s : State) : Host.Outcome State Fault Refusal := guarded s outPwmEffect
def execOutLatch (s : State) : Host.Outcome State Fault Refusal := guarded s outLatchEffect

def outEffect : OutOp → State → State
  | .pwm, s => outPwmEffect s
  | .latch, s => outLatchEffect s

/-- The output selection (R56, step 7): outputs are read from the state after the tick's writes (R42, R85). -/
def outputPhase (s : State) : State := outEffect (decodeOutsel (outsel s)) s

end Sys2Proof.Machine
end

