-- ==== Sys2Proof/Machine/Tick.lean ====
section
/-! DEFINITION. The stimulus operations: the tick T0, T1 (R85) and the synchronous reset RST (R143). -/

namespace Sys2Proof.Machine

/-- The tick of R85 with the sampled level `pin`: the phases in their order, then `PIN_Q <- pin` and `EVT <- ev`, then
the outputs are read from the new state. Should DM_RESERVED fault, no later phase runs, because a faulted state takes no
further step of any kind (R125, log 8); no tick reaches that (R96). -/
def tick (pin : Bit) (s : State) : State :=
  let s3 := dutyPhase (debouncePhase (edgePhase (s.setPin pin)))
  match s3.fault with
  | some _ => s3
  | none => outputPhase (latchPhase (counterPhase s3)).latchTick

/-- A non-reset tick first checks the clauses of R47 (log 7); in a state that breaks one, no operation runs and
`InvariantBroken` is raised (R127). -/
def nonResetTick (pin : Bit) (s : State) : State :=
  match brokenClause s with
  | some k => s.raise (.invariantBroken k)
  | none => tick pin s

/-- The register writes of RESET, in the order of R143. `FAULT` is not written. -/
def resetRegisters (s : State) : State :=
  { s with
    ARM := s.cfg.ACT
    TRUN := false
    TCNT := 0
    PIN_Q := !s.cfg.ACT
    EIFG := false
    TIFG := false
    EVT := Event.NONE
    DUTY := fitWidth s.cfg.DUTY_W s.cfg.D0
    OEN := decide (s.cfg.D0 ≠ 0)
    PLAT := false
    IND := false
    TOG := false
    PCNT := 0
    PQ := decide (s.cfg.D0 ≠ 0)
    sig := Signals.idle }

/-- RST (R143): no detection, debounce, duty or PWM operation runs; the outputs are then read from the reset state
(R42, log 6). -/
def rstEffect (s : State) : State := outputPhase (resetRegisters s)

def execRst (s : State) : Host.Outcome State Fault Refusal := guarded s rstEffect

/-- T0 (R85): a tick with `pin = 0`. -/
def execT0 (s : State) : Host.Outcome State Fault Refusal := guarded s (nonResetTick false)

/-- T1 (R85): a tick with `pin = 1`. -/
def execT1 (s : State) : Host.Outcome State Fault Refusal := guarded s (nonResetTick true)

end Sys2Proof.Machine
end

