-- ==== Sys2Proof/Machine/Dispatch.lean ====
section
/-! DEFINITION. Dispatch: one arm per constructor of Instr. -/

namespace Sys2Proof.Machine

def exec (i : Instr) (s : State) : Host.Outcome State Fault Refusal :=
  match i with
  | .rst _ => Sys2Proof.Machine.execRst s
  | .t0 => Sys2Proof.Machine.execT0 s
  | .t1 => Sys2Proof.Machine.execT1 s
  | .edRise => Sys2Proof.Machine.execEdRise s
  | .edFall => Sys2Proof.Machine.execEdFall s
  | .edSteady0 _ => Sys2Proof.Machine.execEdSteady0 s
  | .edSteady1 _ => Sys2Proof.Machine.execEdSteady1 s
  | .edIgnoreRise => Sys2Proof.Machine.execEdIgnoreRise s
  | .edIgnoreFall => Sys2Proof.Machine.execEdIgnoreFall s
  | .dbEdge _ _ _ => Sys2Proof.Machine.execDbEdge s
  | .dbCount _ => Sys2Proof.Machine.execDbCount s
  | .dbExpireConfirm => Sys2Proof.Machine.execDbExpireConfirm s
  | .dbExpireReject => Sys2Proof.Machine.execDbExpireReject s
  | .dbIdle _ _ => Sys2Proof.Machine.execDbIdle s
  | .dmHold _ => Sys2Proof.Machine.execDmHold s
  | .dmPressStep => Sys2Proof.Machine.execDmPressStep s
  | .dmPressWrap => Sys2Proof.Machine.execDmPressWrap s
  | .dmRelease _ => Sys2Proof.Machine.execDmRelease s
  | .dmReserved fits => Sys2Proof.Machine.execDmReserved fits s
  | .pcInc => Sys2Proof.Machine.execPcInc s
  | .pcWrap => Sys2Proof.Machine.execPcWrap s
  | .pwClear _ => Sys2Proof.Machine.execPwClear s
  | .pwSet => Sys2Proof.Machine.execPwSet s
  | .pwHold => Sys2Proof.Machine.execPwHold s
  | .outPwm => Sys2Proof.Machine.execOutPwm s
  | .outLatch => Sys2Proof.Machine.execOutLatch s

end Sys2Proof.Machine
end

