-- ==== Sys2Proof/Machine/Fetch.lean ====
section
/-! DEFINITION. How an operation comes to be the one the next step runs (log 3, log 9). -/

namespace Sys2Proof.Machine

/-- The stimulus word presented at the next tick becomes `w`, in place of the pending one if there is one. -/
def placeStimulus (s : State) (w : StimWord) : State := { s with stim := w :: s.stim.tail }

/-- The next tick's `EDSEL` becomes `v`: `ARM` and `PIN_Q` are its upper bits and the next stimulus word its pin (R66). -/
def placeEdsel (s : State) (v : BitVec 3) : State :=
  placeStimulus { s with ARM := v.getLsbD 2, PIN_Q := v.getLsbD 1 } (BitVec.ofBool false ++ BitVec.ofBool (v.getLsbD 0))

/-- The next tick detects an edge and its `TRUN` and `last` are those of the `DBSEL` value `v` (R67). A detected edge
has `match = 1`, so that bit is not placed; `last` with an idle timer would break R47 (b) and is not placed either. -/
def placeDbEdge (s : State) (v : BitVec 4) : State :=
  placeStimulus
    { s with
      PIN_Q := !s.ARM
      TRUN := v.getLsbD 2
      TCNT := if v.getLsbD 2 && v.getLsbD 1 then s.cfg.N - 1 else 0 }
    (BitVec.ofBool false ++ BitVec.ofBool s.ARM)

/-- All that it takes for the very next step to run the instruction whose table word is `w`. -/
def placeTableWord (s : State) (w : Nat) : State :=
  match formatOfNumber w with
  | some .STIM => placeStimulus s (BitVec.ofNat 2 w)
  | some .EDSEL => placeEdsel s (BitVec.ofNat 3 w)
  | some .DBSEL => placeDbEdge s (BitVec.ofNat 4 w)
  | some .DMSEL => s
  | some .PCSEL => s
  | some .PWSEL => s
  | some .OUTSEL => s
  | none => s

/-- One step: the word presented at this tick is decoded and its operation executed (R64, R85). -/
def stepOnce (s : State) : Host.Outcome State Fault Refusal :=
  exec (decodeStim s.nextWord).toInstr s.advance

end Sys2Proof.Machine
end

