-- ==== Sys2Proof/Machine/Step.lean ====
section
/-! DEFINITION. The step of the machine: one tick (R3, R53). -/

namespace Sys2Proof.Machine

def step (s : State) : Host.Outcome State Fault Refusal := stepOnce s

def State.withFetchWord (s : State) (_nbits w : Nat) : State := placeTableWord s w

end Sys2Proof.Machine
end

