-- ==== Sys2Proof/Machine/Run.lean ====
section
/-! DEFINITION. Runs: the environment presents a sequence of stimulus words, one per tick (R78, R80, R139). -/

namespace Sys2Proof.Machine

/-- The outcome of one tick at which the environment presents `w`. -/
def tickWith (w : StimWord) (s : State) : Host.Outcome State Fault Refusal := step (s.present w)

/-- The outcome of presenting the words in order, stopping at the first fault or refusal. -/
def runWords : List StimWord → State → Host.Outcome State Fault Refusal
  | [], s => .next s
  | w :: ws, s => andThen (tickWith w s) (runWords ws)

/-- The run table (R80): the states after each tick, in order, up to the first fault or refusal. -/
def runTable : List StimWord → State → List State
  | [], _ => []
  | w :: ws, s =>
    match tickWith w s with
    | .next t => t :: runTable ws t
    | .fault _ => []
    | .refused _ => []

/-- The stimulus word of a non-reset tick that samples `pin` (R64). -/
def pinWord (pin : Bit) : StimWord := BitVec.ofBool false ++ BitVec.ofBool pin

/-- The run table of non-reset ticks that sample the given levels ("pin level as a boolean sequence", R3). -/
def pinTable (pins : List Bit) (s : State) : List State := runTable (pins.map pinWord) s

/-- The outcome of non-reset ticks that sample the given levels. -/
def runPins (pins : List Bit) (s : State) : Host.Outcome State Fault Refusal := runWords (pins.map pinWord) s

/-- Whether a tick that samples `pin` in this state detects an edge (R86, R87). -/
def detects (s : State) (pin : Bit) : Bit := (edgePhase (s.setPin pin)).sig.det

/-- The tick instruction that samples `pin` (R64, R85). -/
def tickInstr (pin : Bit) : Instr := if pin then .t1 else .t0

/-- No tick of a run of sampled levels detects an edge. -/
def NoDetect : List Bit → State → Prop
  | [], _ => True
  | pin :: pins, s => detects s pin = false ∧ ∀ t, tickWith (pinWord pin) s = .next t → NoDetect pins t

/-- The ticks since the last detected edge, `age` of them at the start, stay below `n` at every tick of a run of sampled
levels: each detected edge comes at most `n` ticks after the one before it (the premise of R99). -/
def EdgeWithin (n : Nat) : Nat → List Bit → State → Prop
  | _, [], _ => True
  | age, pin :: pins, s =>
    (if detects s pin then 0 else age + 1) < n ∧
      ∀ t, tickWith (pinWord pin) s = .next t → EdgeWithin n (if detects s pin then 0 else age + 1) pins t

/-- The ticks since the last detected edge after each tick of a run of sampled levels, `age` of them at the start. -/
def edgeAges : Nat → List Bit → State → List Nat
  | _, [], _ => []
  | age, pin :: pins, s =>
    let age' := if detects s pin then 0 else age + 1
    match tickWith (pinWord pin) s with
    | .next t => age' :: edgeAges age' pins t
    | .fault _ => []
    | .refused _ => []

/-- The events of a run table: the `EVT` codes other than NONE, in order (R32: one tick each). -/
def eventsOf (table : List State) : List EventCode :=
  (table.map State.EVT).filter (fun e => decide (e ≠ Event.NONE))

end Sys2Proof.Machine
end

