-- ==== Sys2Proof/Machine/Assembler.lean ====
section
/-! DEFINITION. Stimulus programs: their statements' words (R78, R79) and their text (R78). -/

namespace Sys2Proof.Machine

/-- The words of one statement (R78, R79); `PRESS` is the active level and `REL` the inactive level. -/
def expandStmt (c : Config) : Stmt → List StimWord
  | .rst => [0b10#2]
  | .t0 k => List.replicate k 0b00#2
  | .t1 k => List.replicate k 0b01#2
  | .press k => List.replicate k (if c.ACT then 0b01#2 else 0b00#2)
  | .rel k => List.replicate k (if c.ACT then 0b00#2 else 0b01#2)

/-- A program's encoding is the sequence of its statements' words in order (R78). -/
def expandProgram (c : Config) (p : List Stmt) : List StimWord := p.flatMap (expandStmt c)

/-- The lines of a text. -/
def splitLines : List Char → List (List Char)
  | [] => [[]]
  | c :: cs =>
    match splitLines cs with
    | [] => [[c]]
    | l :: ls => if c = '\n' then [] :: l :: ls else (c :: l) :: ls

def isBlank (c : Char) : Bool := c = ' ' || c = '\t' || c = '\r'

/-- A line without its comment ("from `;` to the end of the line", R78) and without blanks around its statement. -/
def statementText (line : List Char) : List Char :=
  let text := (line.takeWhile (fun c => !decide (c = ';'))).dropWhile isBlank
  (text.reverse.dropWhile isBlank).reverse

def digitValue (c : Char) : Option Nat :=
  if '0' ≤ c ∧ c ≤ '9' then some (c.toNat - '0'.toNat) else none

def readNumber : Nat → List Char → Option Nat
  | acc, [] => some acc
  | acc, c :: cs =>
    match digitValue c with
    | some d => readNumber (10 * acc + d) cs
    | none => none

/-- What follows a mnemonic: nothing is `*1`, and `*k` needs `k >= 1` (R79). -/
def readCount : List Char → Option Nat
  | [] => some 1
  | '*' :: c :: cs =>
    match readNumber 0 (c :: cs) with
    | some k => if 1 ≤ k then some k else none
    | none => none
  | _ :: _ => none

/-- One statement (R78, R79); `none` for any other text. -/
def readStmt : List Char → Option Stmt
  | ['R', 'S', 'T'] => some .rst
  | 'T' :: '0' :: rest => (readCount rest).map .t0
  | 'T' :: '1' :: rest => (readCount rest).map .t1
  | 'P' :: 'R' :: 'E' :: 'S' :: 'S' :: rest => (readCount rest).map .press
  | 'R' :: 'E' :: 'L' :: rest => (readCount rest).map .rel
  | _ => none

/-- The statements of the lines; a line that holds no statement adds none (log 12). -/
def readLines : List (List Char) → Option (List Stmt)
  | [] => some []
  | l :: ls =>
    match statementText l with
    | [] => readLines ls
    | c :: cs =>
      match readStmt (c :: cs), readLines ls with
      | some st, some rest => some (st :: rest)
      | _, _ => none

/-- The words of a program's text (R78); `none` where a line is no statement. -/
def assemble (c : Config) (text : List Char) : Option (List StimWord) :=
  (readLines (splitLines text)).map (expandProgram c)

end Sys2Proof.Machine
end

