-- ==== Sys2Proof/Machine/Interrupts.lean ====
section
/-! DEFINITION. The source's interrupts as events of a tick (R83, R128, R129) and the message-level view (R142). -/

namespace Sys2Proof.Machine

/-- The interrupt sources (a) to (d) of R128. -/
inductive Source where
  | rawEdge
  | debounceExpiry
  | pwmPeriodStart
  | pwmDutyThreshold
deriving DecidableEq, Repr

/-- The state at the latch phase of a tick that samples `pin`: it holds `PCNT'` and `DUTY'`. -/
def atLatch (s : State) (pin : Bit) : State :=
  counterPhase (dutyPhase (debouncePhase (edgePhase (s.setPin pin))))

/-- R128, column "enable": the edge source is never masked, the expiry is enabled while the timer runs. -/
def sourceEnabled (s : State) : Source → Bit
  | .rawEdge => true
  | .debounceExpiry => s.TRUN
  | .pwmPeriodStart => true
  | .pwmDutyThreshold => true

/-- R128, column "raised when", for a tick that samples `pin`. -/
def sourceRaised (s : State) (pin : Bit) : Source → Bit
  | .rawEdge => detects s pin
  | .debounceExpiry => s.TRUN && !detects s pin && last s
  | .pwmPeriodStart => setSig (atLatch s pin)
  | .pwmDutyThreshold => clrSig (atLatch s pin)

/-- The messages of the message-passing reading (R142). -/
inductive Message where
  | rawEdge
  | timerExpired
deriving DecidableEq, Repr

/-- R142: RawEdge at a tick means DB_EDGE at it, TimerExpired means DB_EXPIRE_*. -/
def messageOfDb : DbOp → Option Message
  | .edge _ _ _ => some .rawEdge
  | .count _ => none
  | .expireConfirm => some .timerExpired
  | .expireReject => some .timerExpired
  | .idle _ _ => none

/-- The debounce operation of a tick that samples `pin`. -/
def debounceOp (s : State) (pin : Bit) : DbOp := decodeDbsel (dbsel (edgePhase (s.setPin pin)))

/-- The message a tick that samples `pin` processes: at most one (R57). -/
def messageOf (s : State) (pin : Bit) : Option Message := messageOfDb (debounceOp s pin)

end Sys2Proof.Machine
end

