-- ==== Sys2Proof/Machine/Observe.lean ====
section
/-! DEFINITION. What an observer sees: the output ports (R42) and the packed observation word (R81). No operation reads
either. -/

namespace Sys2Proof.Machine

/-- The output ports of R42; `duty_cmp` as the number on its `DUTY_W` lines. -/
structure Ports where
  edge_sel : Bit
  timer_running : Bit
  press_evt : Bit
  release_evt : Bit
  duty_cmp : Nat
  pwm_en : Bit
  pwm_out : Bit
  ind_out : Bit
  tog_out : Bit
deriving DecidableEq, Repr

/-- Each port is a function of the registers after the tick (R42). -/
def portsOf (s : State) : Ports where
  edge_sel := s.ARM
  timer_running := s.TRUN
  press_evt := decide (s.EVT = Event.PRESS)
  release_evt := decide (s.EVT = Event.RELEASE)
  duty_cmp := s.DUTY
  pwm_en := s.OEN
  pwm_out := if s.OEN then s.PQ else s.PLAT
  ind_out := s.IND
  tog_out := s.TOG

/-- Bits 12 down to 0 of the observation word (R81). -/
def flagBits (s : State) : BitVec 13 :=
  BitVec.ofBool s.FAULT ++ BitVec.ofBool s.PQ ++ BitVec.ofBool s.TOG ++ BitVec.ofBool s.IND ++ BitVec.ofBool s.PLAT ++
    BitVec.ofBool s.OEN ++ s.EVT ++ BitVec.ofBool s.TIFG ++ BitVec.ofBool s.EIFG ++ BitVec.ofBool s.PIN_Q ++
    BitVec.ofBool s.TRUN ++ BitVec.ofBool s.ARM

/-- The packed observation word (R81), `13 + T + 2W` bits: `PCNT`, `DUTY`, `TCNT`, then the flags. -/
def observationWord (s : State) : BitVec (s.cfg.DUTY_W + s.cfg.DUTY_W + s.cfg.TIMER_W + 13) :=
  BitVec.ofNat s.cfg.DUTY_W s.PCNT ++ BitVec.ofNat s.cfg.DUTY_W s.DUTY ++ BitVec.ofNat s.cfg.TIMER_W s.TCNT ++ flagBits s

end Sys2Proof.Machine
end

