-- ==== Sys2Proof/Safety.lean ====
section
/-! DEFINITION. What counts as a good state and a safe run, in the terms the statements use. -/

namespace Sys2Proof.Machine

/-- R7: every domain condition holds. -/
abbrev WellFormedConfig (c : Config) : Prop := brokenCondition c = none

/-- A state in which operations run: its configuration is well formed and it holds no fault (R7, R125). -/
abbrev Ready (s : State) : Prop := WellFormedConfig s.cfg ∧ s.fault = none

/-- The state between two ticks: every clause of R47 holds, no signal is pending and the `pwm_out` line shows what R42
reads from the registers. -/
structure Inv (s : State) : Prop where
  ready : Ready s
  clauses : brokenClause s = none
  idle : s.sig = Signals.idle
  line : s.pwmOut = (portsOf s).pwm_out

/-- The end of a run of a finite program (R141). -/
def RunEnded (s : State) : Prop := s.stim = [] ∧ s.fault = none

/-- A run is settled when no expiry is pending (R141). -/
def Settled (s : State) : Prop := RunEnded s ∧ s.TRUN = false

/-- A run of the words is safe: it answers a state, and that state holds no fault (R127). -/
def SafeRun (ws : List StimWord) (s : State) : Prop := ∃ t, runWords ws s = .next t ∧ t.fault = none

/-- The same state of a block whose `PWM_STRATEGY` parameter is `p` (R122, R123). -/
def withStrategy (p : PwmStrategy) (s : State) : State := { s with cfg := { s.cfg with PWM_STRATEGY := p } }

/-- An outcome with its state, if it has one, seen under another strategy. -/
def outcomeWithStrategy (p : PwmStrategy) :
    Host.Outcome State Fault Refusal → Host.Outcome State Fault Refusal
  | .next s => .next (withStrategy p s)
  | .fault f => .fault f
  | .refused r => .refused r

/-- The step-or-wrap function `f` of R110. -/
def stepOrWrap (c : Config) (d : Nat) : Nat := if d + c.STEP ≤ c.CEILING then d + c.STEP else 0

end Sys2Proof.Machine
end

