-- ==== Sys2Proof/Certificates/Slice0/Obligations.lean ====
section
/-! DEFINITION. The statements for the provers, from the numbered rules of spec/. Where a clause rests on a choice of the
model and not on a rule, its docstring names the log entry. -/

open Sys2Proof Sys2Proof.Machine

/-! ### Encoding -/

/-- R63 to R73, 95_test_vectors.md 2.1 to 2.6: words written out from the patterns decode to their operations. -/
def Obligations.SpecWordsDecode : Prop :=
  decode ⟨.STIM, 0b11⟩ = .ok (.rst true) ∧ decode ⟨.STIM, 0b01⟩ = .ok .t1 ∧
    decode ⟨.EDSEL, 0b101⟩ = .ok .edRise ∧ decode ⟨.EDSEL, 0b110⟩ = .ok .edIgnoreFall ∧
    decode ⟨.DBSEL, 0b0111⟩ = .ok .dbExpireConfirm ∧ decode ⟨.DBSEL, 0b0101⟩ = .ok (.dbCount true) ∧
    decode ⟨.DMSEL, 0b011⟩ = .ok .dmPressStep ∧ decode ⟨.PCSEL, 0b1⟩ = .ok .pcWrap ∧
    decode ⟨.PWSEL, 0b11⟩ = .ok (.pwClear true) ∧ decode ⟨.OUTSEL, 0b0⟩ = .ok .outLatch

/-- R63: decoding an encoded instruction gives it back, every operand bit at every value. -/
def Obligations.DecodeOfEncodeIsTheInstruction : Prop :=
  ∀ i : Instr, (encode i).wf = true ∧ decode (encode i) = .ok i

/-- R63, R74: each value of a format has one meaning, so encoding what was decoded gives the value back, bit for bit. -/
def Obligations.EncodeOfDecodeIsTheWord : Prop :=
  ∀ (r : RawWord) (i : Instr), decode r = .ok i → encode i = r

/-- R74, R82: on every value of a format exactly one row of the opcode table matches by `match`/`mask`, and it is the row
of the instruction the decoder reads. -/
def Obligations.OneTableRowPerValue : Prop :=
  ∀ r : RawWord, r.wf = true → ∃ i row,
    decode r = .ok i ∧ row ∈ opcodeTable ∧ row.selects r = true ∧ row.mnemonic = i.mnemonic ∧
      ∀ row' ∈ opcodeTable, row'.selects r = true → row' = row

/-- R63, R77: the widths are fixed, so a value with a bit above its format's width is no word of it. -/
def Obligations.WideValuesAreRejected : Prop :=
  ∀ (f : Format) (v : Nat), 2 ^ f.width ≤ v → decode ⟨f, v⟩ = .error (.tooWide f v)

/-! ### Step and fetch -/

/-- R64, R85: a step takes the next stimulus word, counts the tick and is `exec` of the instruction the word decodes to;
with no word pending, the word is a free one (log 4), whichever it is. -/
def Obligations.StepRunsTheDecodedInstruction : Prop :=
  (∀ (s : State) (w : StimWord) (rest : List StimWord) (i : Instr),
    s.stim = w :: rest → decode ⟨.STIM, w.toNat⟩ = .ok i →
      step s = exec i { s with stim := rest, ticks := s.ticks + 1 }) ∧
  (∀ (s : State) (i : Instr),
    s.stim = [] → decode ⟨.STIM, (Config.freeStimulus s.ticks).toNat⟩ = .ok i →
      step s = exec i { s with ticks := s.ticks + 1 })

/-- Log 3, log 9 (the model's): after `withFetchWord` with a stimulus word the very next step runs its instruction; with
an `EDSEL` number the next step's tick runs that edge operation; with a `DBSEL` number it runs DB_EDGE. -/
def Obligations.PlacedWordRunsNext : Prop :=
  (∀ (s : State) (nbits w : Nat), w < 4 → ∃ i,
    decodeTableWord nbits w = some i ∧
      step (s.withFetchWord nbits w) = exec i { s with stim := s.stim.tail, ticks := s.ticks + 1 }) ∧
  (∀ (s : State) (nbits w : Nat), 4 ≤ w → w < 8 → ∃ (op : EdOp) (pin : Bit),
    decodeTableWord nbits w = some op.toInstr ∧
      step (s.withFetchWord nbits w) = exec (tickInstr pin) (s.withFetchWord nbits w).advance ∧
      decodeEdsel (edsel ((s.withFetchWord nbits w).advance.setPin pin)) = op) ∧
  (∀ (s : State) (nbits w : Nat), 8 ≤ w → w < 16 → ∃ (trun last matching pin : Bit),
    decodeTableWord nbits w = some (.dbEdge trun last matching) ∧
      step (s.withFetchWord nbits w) = exec (tickInstr pin) (s.withFetchWord nbits w).advance ∧
      debounceOp (s.withFetchWord nbits w).advance pin = .edge trun (Sys2Proof.Machine.last (s.withFetchWord nbits w)) true)

/-- R80, R139: words placed in the pending queue are the words the next ticks present, in order. -/
def Obligations.PendingWordsRunInOrder : Prop :=
  ∀ (ws : List StimWord) (s : State),
    Sys2Proof.core.run ws.length { s with stim := ws ++ s.stim } = runWords ws s

/-! ### Reset -/

/-- R143: RST writes every register but `FAULT`, whatever the pin bit and whatever the (non-faulted) state; a faulted state
takes no RESET. The last two fields are the model's own: the signals are idle, and the `pwm_out` line shows what R42 reads
(log 5, log 6). -/
def Obligations.ResetWritesEveryRegister : Prop :=
  (∀ (s : State) (pin : Bit), Ready s →
    decode ⟨.STIM, 2 + pin.toNat⟩ = .ok (.rst pin) ∧
    exec (.rst pin) s = .next { s with
      ARM := s.cfg.ACT, TRUN := false, TCNT := 0, PIN_Q := !s.cfg.ACT, EIFG := false, TIFG := false, EVT := 0b00#2,
      DUTY := s.cfg.D0, OEN := decide (s.cfg.D0 ≠ 0), PLAT := false, IND := false, TOG := false, PCNT := 0,
      PQ := decide (s.cfg.D0 ≠ 0), sig := Signals.idle, pwmOut := decide (s.cfg.D0 ≠ 0) }) ∧
  (∀ (s : State) (pin : Bit) (f : Fault), WellFormedConfig s.cfg → s.fault = some f → exec (.rst pin) s = .fault f)

/-- R144: RST takes every non-faulted state to the reset state of its configuration, which is also the state the machine
starts in. The model's own fields are the model's choice: idle signals (log 5), the `pwm_out` line (log 6), and the pending
words and the tick number, which are the environment's and stay (log 3, log 4). -/
def Obligations.ResetStateIsThePowerOnState : Prop :=
  Sys2Proof.core.reset = State.powerOn State.reset.cfg ∧ State.reset.fault = none ∧
  ∀ (s : State) (pin : Bit), Ready s →
    exec (.rst pin) s = .next { State.powerOn s.cfg with stim := s.stim, ticks := s.ticks }

/-- R145: the reset state of every well-formed configuration satisfies every invariant of R47. -/
def Obligations.ResetStateSatisfiesEveryClause : Prop :=
  ∀ c : Config, WellFormedConfig c →
    (∀ k : Clause, clauseHolds (State.powerOn c) k = true) ∧
    (State.powerOn c).TCNT = 0 ∧ (State.powerOn c).TRUN = false ∧ (State.powerOn c).DUTY = c.D0 ∧ c.D0 ≤ c.PERIOD ∧
    (State.powerOn c).OEN = decide (c.D0 ≠ 0) ∧ (State.powerOn c).PLAT = false ∧ (State.powerOn c).PCNT = 0 ∧
    (State.powerOn c).EVT = Event.NONE

/-- The model's invariant (R47 with log 5, log 6) holds in the reset state of every well-formed configuration, and in
`State.reset`. -/
def Obligations.InvariantHoldsAtReset : Prop :=
  (∀ c : Config, WellFormedConfig c → Inv (State.powerOn c)) ∧ Inv State.reset

/-- R146, and R99 for "not before": the first tick after reset detects the press edge exactly when its pin is at the active
level; a press held through reset is emitted as a PRESS `N` ticks after that first tick, and not before. -/
def Obligations.PressHeldThroughResetIsReported : Prop :=
  ∀ c : Config, WellFormedConfig c →
    (∀ pin : Bit, detects (State.powerOn c) pin = decide (pin = c.ACT)) ∧
    (∃ t, tickWith (pinWord (!c.ACT)) (State.powerOn c) = .next t ∧ t.TRUN = false ∧ t.EVT = Event.NONE) ∧
    (∀ k, k ≤ c.N → ∃ t, runPins (List.replicate (k + 1) c.ACT) (State.powerOn c) = .next t ∧
      t.EVT = if k = c.N then Event.PRESS else Event.NONE)

/-! ### The edge detector -/

/-- R86, R87: ED_RISE and ED_FALL give `det = 1` and set `EIFG`, nothing else; ED_RISE is selected exactly when the rising
edge is armed and the pin went from 0 to 1 between two consecutive samples, ED_FALL the other way round. The flag is
transient: the debounce operation of the same tick clears it. -/
def Obligations.DetectedEdgeOperations : Prop :=
  (∀ s : State, Ready s →
    exec .edRise s = .next { s with EIFG := true, sig := { s.sig with det := true } } ∧
    exec .edFall s = .next { s with EIFG := true, sig := { s.sig with det := true } }) ∧
  (∀ s : State,
    (decodeEdsel (edsel s) = .rise ↔ s.ARM = true ∧ s.PIN_Q = false ∧ s.sig.pin = true) ∧
    (decodeEdsel (edsel s) = .fall ↔ s.ARM = false ∧ s.PIN_Q = true ∧ s.sig.pin = false)) ∧
  (∀ s : State, (edgePhase s).sig.det = true → (debouncePhase (edgePhase s)).EIFG = false)

/-- R88: the four other verdicts give `det = 0` and write no flag; a steady pin and a transition in the direction that is
not armed select them, and the debounce operation of that tick then neither starts nor restarts the timer by an edge. -/
def Obligations.UndetectedEdgeOperations : Prop :=
  (∀ (s : State) (arm : Bit), Ready s →
    exec (.edSteady0 arm) s = .next { s with sig := { s.sig with det := false } } ∧
    exec (.edSteady1 arm) s = .next { s with sig := { s.sig with det := false } } ∧
    exec .edIgnoreRise s = .next { s with sig := { s.sig with det := false } } ∧
    exec .edIgnoreFall s = .next { s with sig := { s.sig with det := false } }) ∧
  (∀ s : State,
    (decodeEdsel (edsel s) = .steady0 s.ARM ↔ s.PIN_Q = false ∧ s.sig.pin = false) ∧
    (decodeEdsel (edsel s) = .steady1 s.ARM ↔ s.PIN_Q = true ∧ s.sig.pin = true) ∧
    (decodeEdsel (edsel s) = .ignoreRise ↔ s.ARM = false ∧ s.PIN_Q = false ∧ s.sig.pin = true) ∧
    (decodeEdsel (edsel s) = .ignoreFall ↔ s.ARM = true ∧ s.PIN_Q = true ∧ s.sig.pin = false)) ∧
  (∀ (s : State) (trun l m : Bit), (edgePhase s).sig.det = false →
    decodeDbsel (dbsel (edgePhase s)) ≠ .edge trun l m)

/-! ### Debounce operations -/

/-- R91: DB_IDLE gives `ev = NONE` and writes no register; it is selected with no edge and the timer idle, wherever the
pin is. -/
def Obligations.IdleOperation : Prop :=
  (∀ (s : State) (l m : Bit), Ready s →
    exec (.dbIdle l m) s = .next { s with sig := { s.sig with ev := 0b00#2 } }) ∧
  (∀ s : State, (∃ l m, decodeDbsel (dbsel s) = .idle l m) ↔ s.sig.det = false ∧ s.TRUN = false)

/-- R92: DB_EDGE clears `EIFG` and restarts the timer from zero; a detected edge selects it whether the timer was idle or
running and even on the tick that would have been the expiry; `ARM` is not written. -/
def Obligations.EdgeRestartsTheTimer : Prop :=
  (∀ (s : State) (trun l m : Bit), Ready s →
    exec (.dbEdge trun l m) s =
      .next { s with EIFG := false, TCNT := 0, TRUN := true, sig := { s.sig with ev := 0b00#2 } }) ∧
  (∀ s : State, (∃ trun l m, decodeDbsel (dbsel s) = .edge trun l m) ↔ s.sig.det = true)

/-- R93: on a tick of a running window that is not its last, DB_COUNT adds one to `TCNT`, which stays at most `N - 1` and
within `TIMER_W` bits; with `N = 1` it never runs. -/
def Obligations.CountOperation : Prop :=
  (∀ (s : State) (m : Bit), Ready s → s.TCNT + 1 < s.cfg.N →
    exec (.dbCount m) s = .next { s with TCNT := s.TCNT + 1, sig := { s.sig with ev := 0b00#2 } } ∧
    s.TCNT + 1 ≤ s.cfg.N - 1 ∧ s.TCNT + 1 < 2 ^ s.cfg.TIMER_W) ∧
  (∀ s : State, (∃ m, decodeDbsel (dbsel s) = .count m) ↔ s.sig.det = false ∧ s.TRUN = true ∧ s.TCNT + 1 < s.cfg.N) ∧
  (∀ (s : State) (m : Bit), s.cfg.N = 1 → decodeDbsel (dbsel s) ≠ .count m)

/-- R94, R96: DB_EXPIRE_CONFIRM stops the timer, flips the armed edge and classifies the transition by the edge that was
armed; it is selected with no edge, on the window's last tick, when the sampled level is the armed one. With
`EMIT_RELEASE = 0` a confirmed release flips `ARM` and emits nothing. -/
def Obligations.ConfirmOperation : Prop :=
  (∀ s : State, Ready s →
    exec .dbExpireConfirm s = .next { s with
      TIFG := false, TRUN := false, TCNT := 0, ARM := !s.ARM
      sig := { s.sig with
        ev := if s.ARM = s.cfg.ACT then 0b01#2 else if s.cfg.EMIT_RELEASE then 0b10#2 else 0b00#2 } }) ∧
  (∀ s : State, decodeDbsel (dbsel s) = .expireConfirm ↔
    s.sig.det = false ∧ s.TRUN = true ∧ s.cfg.N ≤ s.TCNT + 1 ∧ s.sig.pin = s.ARM)

/-- R95: DB_EXPIRE_REJECT stops the timer, emits nothing and leaves `ARM`; it is selected on the window's last tick when
the level disagrees. After the tick that ran it, the next transition in the armed direction is detected. -/
def Obligations.RejectOperation : Prop :=
  (∀ s : State, Ready s →
    exec .dbExpireReject s = .next { s with
      TIFG := false, TRUN := false, TCNT := 0, sig := { s.sig with ev := 0b00#2 } }) ∧
  (∀ s : State, decodeDbsel (dbsel s) = .expireReject ↔
    s.sig.det = false ∧ s.TRUN = true ∧ s.cfg.N ≤ s.TCNT + 1 ∧ s.sig.pin ≠ s.ARM) ∧
  (∀ (s t : State) (pin : Bit), Inv s → debounceOp s pin = .expireReject → tickWith (pinWord pin) s = .next t →
    t.ARM = s.ARM ∧ t.EVT = Event.NONE ∧ detects t t.ARM = true)

/-- R90: of the debounce operations only DB_EXPIRE_CONFIRM gives an event code other than NONE, and no operation of a tick
ever gives the reserved code. -/
def Obligations.OnlyConfirmEmits : Prop :=
  (∀ (op : DbOp) (s t : State), exec op.toInstr s = .next t → t.sig.ev ≠ Event.NONE → op = .expireConfirm) ∧
  (∀ s : State, (debouncePhase s).sig.ev ≠ Event.RESERVED) ∧
  (∀ (s t : State) (pin : Bit), exec (tickInstr pin) s = .next t → t.fault = none → t.EVT ≠ Event.NONE →
    debounceOp s pin = .expireConfirm)

/-! ### Duty operations -/

/-- R103, R108: DM_HOLD writes nothing; DM_RELEASE turns the indicator off and touches nothing else. The event code
selects them, `fits` ignored. With `EMIT_RELEASE = 0` no tick runs DM_RELEASE, so `IND` stays 1 once it is 1. -/
def Obligations.HoldAndReleaseOperations : Prop :=
  (∀ (s : State) (f : Bit), Ready s →
    exec (.dmHold f) s = .next s ∧ exec (.dmRelease f) s = .next { s with IND := false }) ∧
  (∀ s : State,
    ((∃ f, decodeDmsel (dmsel s) = .hold f) ↔ s.sig.ev = 0b00#2) ∧
    ((∃ f, decodeDmsel (dmsel s) = .release f) ↔ s.sig.ev = 0b10#2)) ∧
  (∀ (s : State) (pin f : Bit), s.cfg.EMIT_RELEASE = false →
    decodeDmsel (dmsel (debouncePhase (edgePhase (s.setPin pin)))) ≠ .release f) ∧
  (∀ (s t : State) (pin : Bit), s.cfg.EMIT_RELEASE = false → exec (tickInstr pin) s = .next t → s.IND = true →
    t.IND = true)

/-- R104, R105, R106: a press whose sum is at most `CEILING` (equal steps, it does not wrap) raises the duty by `STEP`,
enables the output, lights the indicator and toggles `TOG`; the new duty is at most `PERIOD` and within `DUTY_W` bits. -/
def Obligations.PressStepOperation : Prop :=
  (∀ s : State, Ready s → s.DUTY + s.cfg.STEP ≤ s.cfg.CEILING →
    exec .dmPressStep s =
      .next { s with DUTY := s.DUTY + s.cfg.STEP, OEN := true, IND := true, TOG := !s.TOG } ∧
    s.DUTY + s.cfg.STEP ≤ s.cfg.PERIOD ∧ s.DUTY + s.cfg.STEP < 2 ^ s.cfg.DUTY_W) ∧
  (∀ s : State, decodeDmsel (dmsel s) = .pressStep ↔ s.sig.ev = 0b01#2 ∧ s.DUTY + s.cfg.STEP ≤ s.cfg.CEILING)

/-- R105, R107, R155: a press that would pass the ceiling resets the duty to 0 and performs both disablement actions, under
either strategy; it lights the indicator and toggles `TOG` too. With `CEILING < STEP` every press from 0 wraps, with
`D0 > CEILING` a press from `D0` does, and of the duty operations only this one disables the output. -/
def Obligations.PressWrapOperation : Prop :=
  (∀ s : State, Ready s →
    exec .dmPressWrap s =
      .next { s with DUTY := 0, OEN := false, PLAT := false, IND := true, TOG := !s.TOG }) ∧
  (∀ s : State, decodeDmsel (dmsel s) = .pressWrap ↔ s.sig.ev = 0b01#2 ∧ s.cfg.CEILING < s.DUTY + s.cfg.STEP) ∧
  (∀ s : State, s.sig.ev = 0b01#2 → s.DUTY = 0 → s.cfg.CEILING < s.cfg.STEP → decodeDmsel (dmsel s) = .pressWrap) ∧
  (∀ s : State, s.sig.ev = 0b01#2 → s.DUTY = s.cfg.D0 → s.cfg.CEILING < s.cfg.D0 →
    decodeDmsel (dmsel s) = .pressWrap) ∧
  (∀ (op : DmOp) (s t : State), exec op.toInstr s = .next t → s.OEN = true → t.OEN = false → op = .pressWrap)

/-- R109: DM_RESERVED raises `Fault(ReservedEvent)`: `FAULT` becomes 1 (R125), the `DMSEL` value is recorded (R127) and
nothing else is written. That raising answers a next state is the model's reading (log 8), and the value's low bit is the
operand the model keeps (log 15). The reserved code selects the operation, and no tick does, from any state. -/
def Obligations.ReservedOperationFaults : Prop :=
  (∀ (s : State) (f : Bit), Ready s → ∃ t,
    exec (.dmReserved f) s = .next t ∧ t.FAULT = true ∧
      t = { s with fault := some (.reservedEvent (if f then 0b111#3 else 0b110#3)) }) ∧
  (∀ s : State, (∃ f, decodeDmsel (dmsel s) = .reserved f) ↔ s.sig.ev = 0b11#2) ∧
  (∀ (s : State) (pin f : Bit),
    decodeDmsel (dmsel (debouncePhase (edgePhase (s.setPin pin)))) ≠ .reserved f)

/-! ### The PWM generator and the output mux -/

/-- R114, R115: PC_INC adds one, which stays at most `PERIOD` and within `DUTY_W` bits; PC_WRAP returns to 0, also from a
value beyond `PERIOD`; one of them runs in every non-reset tick whatever the debounce and duty operations do. -/
def Obligations.CounterOperations : Prop :=
  (∀ s : State, Ready s →
    (s.PCNT < s.cfg.PERIOD →
      exec .pcInc s = .next { s with PCNT := s.PCNT + 1 } ∧ s.PCNT + 1 ≤ s.cfg.PERIOD ∧
        s.PCNT + 1 < 2 ^ s.cfg.DUTY_W) ∧
    exec .pcWrap s = .next { s with PCNT := 0 }) ∧
  (∀ s : State,
    (decodePcsel (pcsel s) = .inc ↔ s.PCNT < s.cfg.PERIOD) ∧
    (decodePcsel (pcsel s) = .wrap ↔ s.cfg.PERIOD ≤ s.PCNT)) ∧
  (∀ (s t : State) (pin : Bit), Inv s → exec (tickInstr pin) s = .next t →
    t.PCNT = if s.PCNT < s.cfg.PERIOD then s.PCNT + 1 else 0)

/-- R116, R117, R118: PW_CLEAR clears the latch at the duty threshold, PW_SET sets it at period start, PW_HOLD writes
nothing; when threshold and period start coincide the clear wins. -/
def Obligations.LatchOperations : Prop :=
  (∀ (s : State) (z : Bit), Ready s →
    exec (.pwClear z) s = .next { s with PQ := false } ∧
    exec .pwSet s = .next { s with PQ := true } ∧
    exec .pwHold s = .next s) ∧
  (∀ s : State,
    ((∃ z, decodePwsel (pwsel s) = .clear z) ↔ s.PCNT = s.DUTY) ∧
    (decodePwsel (pwsel s) = .set ↔ s.PCNT ≠ s.DUTY ∧ s.PCNT = 0) ∧
    (decodePwsel (pwsel s) = .hold ↔ s.PCNT ≠ s.DUTY ∧ s.PCNT ≠ 0))

/-- R119, R120: with the output enabled `pwm_out` shows `PQ`, with it disabled `PLAT`. -/
def Obligations.OutputOperations : Prop :=
  (∀ s : State, Ready s →
    exec .outPwm s = .next { s with pwmOut := s.PQ } ∧ exec .outLatch s = .next { s with pwmOut := s.PLAT }) ∧
  (∀ s : State,
    (decodeOutsel (outsel s) = .pwm ↔ s.OEN = true) ∧ (decodeOutsel (outsel s) = .latch ↔ s.OEN = false))

/-- R12: the frame of the internal operations, family by family: registers an operation does not name keep their values
(DM_RESERVED writes `FAULT` only). -/
def Obligations.InternalOperationFrames : Prop :=
  (∀ (op : EdOp) (s t : State), exec op.toInstr s = .next t →
    t = { s with EIFG := t.EIFG, sig := { s.sig with det := t.sig.det } }) ∧
  (∀ (op : DbOp) (s t : State), exec op.toInstr s = .next t →
    t = { s with ARM := t.ARM, TRUN := t.TRUN, TCNT := t.TCNT, EIFG := t.EIFG, TIFG := t.TIFG,
                 sig := { s.sig with ev := t.sig.ev } }) ∧
  (∀ (op : DmOp) (s t : State), exec op.toInstr s = .next t →
    t = { s with DUTY := t.DUTY, OEN := t.OEN, PLAT := t.PLAT, IND := t.IND, TOG := t.TOG, fault := t.fault } ∧
      ((∃ f, op = .reserved f) ∨ t.fault = none)) ∧
  (∀ (op : PcOp) (s t : State), exec op.toInstr s = .next t → t = { s with PCNT := t.PCNT }) ∧
  (∀ (op : PwOp) (s t : State), exec op.toInstr s = .next t → t = { s with PQ := t.PQ }) ∧
  (∀ (op : OutOp) (s t : State), exec op.toInstr s = .next t → t = { s with pwmOut := t.pwmOut })

/-! ### The tick -/

/-- R85, R56: a non-reset tick from a state that meets R47 is one operation of each phase in the fixed order, each selected
by its decode vector from the state its predecessor left, then `PIN_Q <- pin` and `EVT <- ev`, then the output selection. -/
def Obligations.TickRunsOneOperationPerPhase : Prop :=
  ∀ (s : State) (pin : Bit), Ready s → brokenClause s = none →
    exec (tickInstr pin) s =
      andThen (exec (decodeEdsel (edsel (s.setPin pin))).toInstr (s.setPin pin)) fun s1 =>
      andThen (exec (decodeDbsel (dbsel s1)).toInstr s1) fun s2 =>
      andThen (exec (decodeDmsel (dmsel s2)).toInstr s2) fun s3 =>
      andThen (exec (decodePcsel (pcsel s3)).toInstr s3) fun s4 =>
      andThen (exec (decodePwsel (pwsel s4)).toInstr s4) fun s5 =>
      exec (decodeOutsel (outsel s5.latchTick)).toInstr s5.latchTick

/-- R11, R85 and the operation rules: T0 and T1 complete in every state that meets R7 and R47, and every register of the
next state is the stated function of the start-of-tick registers and the sampled level alone. `sig` and `pwmOut` are the
model's own fields (log 5, log 6). -/
def Obligations.TickComputesEveryRegister : Prop :=
  ∀ (s : State) (pin : Bit), Ready s → brokenClause s = none →
    let det : Bit := decide (pin ≠ s.PIN_Q ∧ pin = s.ARM)
    let expiry : Bit := !det && s.TRUN && decide (s.TCNT + 1 ≥ s.cfg.N)
    let confirm : Bit := expiry && decide (pin = s.ARM)
    let ev : EventCode :=
      if confirm then (if s.ARM = s.cfg.ACT then 0b01#2 else if s.cfg.EMIT_RELEASE then 0b10#2 else 0b00#2) else 0b00#2
    let press : Bit := decide (ev = 0b01#2)
    let fits : Bit := decide (s.DUTY + s.cfg.STEP ≤ s.cfg.CEILING)
    let duty : Nat := if press then (if fits then s.DUTY + s.cfg.STEP else 0) else s.DUTY
    let oen : Bit := if press then fits else s.OEN
    let pcnt : Nat := if s.PCNT ≥ s.cfg.PERIOD then 0 else s.PCNT + 1
    let pq : Bit := if pcnt = duty then false else if pcnt = 0 then true else s.PQ
    exec (tickInstr pin) s = .next { s with
      ARM := if confirm then !s.ARM else s.ARM
      TRUN := det || (s.TRUN && !expiry)
      TCNT := if det || expiry then 0 else if s.TRUN then s.TCNT + 1 else s.TCNT
      PIN_Q := pin
      EIFG := false
      TIFG := false
      EVT := ev
      DUTY := duty
      OEN := oen
      PLAT := false
      IND := if press then true else if ev = 0b10#2 then false else s.IND
      TOG := if press then !s.TOG else s.TOG
      PCNT := pcnt
      PQ := pq
      sig := Signals.idle
      pwmOut := oen && pq }

/-- R42: after every step from a state of the invariant each port is its function of the registers after the tick, and
the `pwm_out` line holds that value (log 6). -/
def Obligations.PortsReadTheNewRegisters : Prop :=
  ∀ s t : State, Inv s → step s = .next t →
    portsOf t =
      { edge_sel := t.ARM, timer_running := t.TRUN, press_evt := decide (t.EVT = 0b01#2)
        release_evt := decide (t.EVT = 0b10#2), duty_cmp := t.DUTY, pwm_en := t.OEN
        pwm_out := if t.OEN then t.PQ else t.PLAT, ind_out := t.IND, tog_out := t.TOG } ∧
    (portsOf t).pwm_out = t.pwmOut

/-- R81: the fields of the packed observation word stand at their bit positions: the flags in every state, faulted or not
and whether or not it meets R47; a counter whole wherever it is below 2 to its width. -/
def Obligations.ObservationWordFields : Prop :=
  ∀ s : State,
    let w := observationWord s
    (w.getLsbD 0 = s.ARM ∧ w.getLsbD 1 = s.TRUN ∧ w.getLsbD 2 = s.PIN_Q ∧ w.getLsbD 3 = s.EIFG ∧
      w.getLsbD 4 = s.TIFG ∧ w.extractLsb' 5 2 = s.EVT ∧ w.getLsbD 7 = s.OEN ∧ w.getLsbD 8 = s.PLAT ∧
      w.getLsbD 9 = s.IND ∧ w.getLsbD 10 = s.TOG ∧ w.getLsbD 11 = s.PQ ∧ w.getLsbD 12 = s.FAULT) ∧
    (s.TCNT < 2 ^ s.cfg.TIMER_W → (w.extractLsb' 13 s.cfg.TIMER_W).toNat = s.TCNT) ∧
    (s.DUTY < 2 ^ s.cfg.DUTY_W → (w.extractLsb' (13 + s.cfg.TIMER_W) s.cfg.DUTY_W).toNat = s.DUTY) ∧
    (s.PCNT < 2 ^ s.cfg.DUTY_W → (w.extractLsb' (13 + s.cfg.TIMER_W + s.cfg.DUTY_W) s.cfg.DUTY_W).toNat = s.PCNT)

/-! ### Faults and refusals -/

/-- R7: a configuration is well formed exactly when the seven domain conditions hold, and one that is not "has no step at
all": every instruction and the step refuse it, naming a condition it breaks (R127). That they refuse it in a faulted state
too is the model's choice (log 14). -/
def Obligations.IllFormedConfigurationHasNoStep : Prop :=
  (∀ c : Config, WellFormedConfig c ↔
    c.N ≥ 1 ∧ c.PERIOD ≥ 1 ∧ c.STEP ≥ 1 ∧ c.CEILING ≤ c.PERIOD ∧ c.D0 ≤ c.PERIOD ∧ 2 ^ c.TIMER_W ≥ c.N ∧
      2 ^ c.DUTY_W > c.PERIOD) ∧
  (∀ s : State, ¬ WellFormedConfig s.cfg → ∃ k, conditionHolds s.cfg k = false ∧
    (∀ i : Instr, exec i s = .refused (.illFormedConfig k)) ∧ step s = .refused (.illFormedConfig k))

/-- R125: raising a fault sets `FAULT` and records the reason, changing nothing else; a state with `FAULT = 1` takes no
further step of any kind, RST included. -/
def Obligations.FaultedStateTakesNoStep : Prop :=
  (∀ (s : State) (f : Fault), (s.raise f).FAULT = true ∧ s.raise f = { s with fault := some f }) ∧
  (∀ (s : State) (f : Fault), WellFormedConfig s.cfg → s.fault = some f →
    (∀ i : Instr, exec i s = .fault f) ∧ step s = .fault f)

/-- R127 (code 2), R75 (d), by the model's choice to check (log 7): a non-reset tick from a state that breaks a clause of
R47 runs no operation and raises `InvariantBroken` with a clause that fails; RST is not checked. -/
def Obligations.BrokenStateFaultsOnTick : Prop :=
  (∀ s : State, (∃ k, clauseHolds s k = false) ↔ ∃ k, brokenClause s = some k) ∧
  (∀ (s : State) (k : Clause) (pin : Bit), Ready s → brokenClause s = some k →
    clauseHolds s k = false ∧
    exec (tickInstr pin) s = .next { s with fault := some (.invariantBroken k) }) ∧
  (∀ (s : State) (pin : Bit), Ready s → ∃ t, exec (.rst pin) s = .next t ∧ t.fault = none)

/-! ### Invariants -/

/-- R47 and the model's own fields: every step from a state of the invariant leads to one. -/
def Obligations.StepKeepsTheInvariant : Prop :=
  ∀ s t : State, Inv s → step s = .next t → Inv t

/-- R140: a non-faulted state of the invariant always has a step, whatever word the environment presents, and it raises no
fault. -/
def Obligations.StepAlwaysAnswers : Prop :=
  ∀ s : State, Inv s → ∃ t, step s = .next t ∧ t.fault = none

/-- R47: every state reached from RESET under a well-formed configuration satisfies clauses (a) to (h), and no run from
reset ever raises a fault. -/
def Obligations.ReachableStatesSatisfyEveryClause : Prop :=
  ∀ (c : Config) (ws : List StimWord) (t : State), WellFormedConfig c → runWords ws (State.powerOn c) = .next t →
    t.TCNT ≤ c.N - 1 ∧ (t.TRUN = false → t.TCNT = 0) ∧ (t.EIFG = false ∧ t.TIFG = false) ∧ t.EVT ≠ 0b11#2 ∧
    t.DUTY ≤ c.PERIOD ∧ t.OEN = decide (t.DUTY ≠ 0) ∧ t.PLAT = false ∧ t.PCNT ≤ c.PERIOD ∧ t.fault = none

/-- R127: no run from the reset state of a well-formed configuration stops or holds a fault, whatever the words. -/
def Obligations.NoRunFromResetFaults : Prop :=
  ∀ (c : Config) (ws : List StimWord), WellFormedConfig c → SafeRun ws (State.powerOn c)

/-- R8, R139: no instruction and no step writes a parameter; the pending words and the tick number belong to the
environment, and no instruction writes them. -/
def Obligations.ParametersNeverChange : Prop :=
  (∀ (i : Instr) (s t : State), exec i s = .next t → t.cfg = s.cfg ∧ t.stim = s.stim ∧ t.ticks = s.ticks) ∧
  (∀ s t : State, step s = .next t → t.cfg = s.cfg)

/-- R10, R51: the counters stay within their widths in every state of the invariant. -/
def Obligations.CountersFitTheirWidths : Prop :=
  ∀ s : State, Inv s → s.TCNT < 2 ^ s.cfg.TIMER_W ∧ s.DUTY < 2 ^ s.cfg.DUTY_W ∧ s.PCNT < 2 ^ s.cfg.DUTY_W

/-- R98: `ARM` changes only through DB_EXPIRE_CONFIRM and RST, `TRUN` and `TCNT` only through the DB operations that name
them and RST; a tick changes them only when the debounce operation it runs is one of those. -/
def Obligations.DebounceRegisterWriters : Prop :=
  ∀ (i : Instr) (s t : State), exec i s = .next t →
    (t.ARM ≠ s.ARM →
      i = .dbExpireConfirm ∨ (∃ p, i = .rst p) ∨ ∃ pin, i = tickInstr pin ∧ debounceOp s pin = .expireConfirm) ∧
    (t.TRUN ≠ s.TRUN ∨ t.TCNT ≠ s.TCNT →
      (∃ op : DbOp, i = op.toInstr ∧ ∀ l m, op ≠ .idle l m) ∨ (∃ p, i = .rst p) ∨
        ∃ pin, i = tickInstr pin ∧ ∀ l m, debounceOp s pin ≠ .idle l m)

/-- R112: `DUTY` and `OEN` change only through DM_PRESS_STEP, DM_PRESS_WRAP and RST; a tick changes them only when it
emits a PRESS. -/
def Obligations.DutyRegisterWriters : Prop :=
  ∀ (i : Instr) (s t : State), exec i s = .next t → t.DUTY ≠ s.DUTY ∨ t.OEN ≠ s.OEN →
    i = .dmPressStep ∨ i = .dmPressWrap ∨ (∃ p, i = .rst p) ∨ ∃ pin, i = tickInstr pin ∧ t.EVT = Event.PRESS

/-- R122, R123: the strategy has no observable effect: a step of the same state under the other strategy gives the same
outcome, every register and port alike. -/
def Obligations.StrategyIsUnobservable : Prop :=
  ∀ (p : PwmStrategy) (s : State),
    step (withStrategy p s) = outcomeWithStrategy p (step s) ∧ portsOf (withStrategy p s) = portsOf s

/-- R57, R128, R129, R142: within a tick the raw edge and the expiry are never both raised; a raised edge is DB_EDGE and
the message RawEdge, a raised expiry is DB_EXPIRE_* and the message TimerExpired; a tick without a message counts or
idles; the duty threshold wins over the period start. -/
def Obligations.InterruptSourcesSelectOperations : Prop :=
  ∀ (s : State) (pin : Bit),
    ¬ (sourceRaised s pin .rawEdge = true ∧ sourceRaised s pin .debounceExpiry = true) ∧
    (sourceRaised s pin .rawEdge = true ↔ messageOf s pin = some .rawEdge) ∧
    (sourceRaised s pin .debounceExpiry = true ↔ messageOf s pin = some .timerExpired) ∧
    (sourceRaised s pin .debounceExpiry = true ↔
      debounceOp s pin = .expireConfirm ∨ debounceOp s pin = .expireReject) ∧
    (messageOf s pin = none ↔ (∃ m, debounceOp s pin = .count m) ∨ ∃ l m, debounceOp s pin = .idle l m) ∧
    (sourceRaised s pin .pwmDutyThreshold = true ↔ ∃ z, decodePwsel (pwsel (atLatch s pin)) = .clear z) ∧
    (sourceRaised s pin .pwmDutyThreshold = false ∧ sourceRaised s pin .pwmPeriodStart = true ↔
      decodePwsel (pwsel (atLatch s pin)) = .set)

/-! ### Behaviour over many ticks -/

/-- R93, R94, R95, R157: from just after a detected edge, `N` ticks with no further detected edge count the window (`TCNT`
is the number of ticks since the edge, nothing is emitted) and at the `N`-th, not before, the sampled level decides:
confirmed with the classified event and the armed edge flipped, or rejected with nothing changed. -/
def Obligations.QuietWindowExpiresAtTheDeadline : Prop :=
  ∀ (s : State) (pins : List Bit) (pin : Bit), Inv s → s.TRUN = true → s.TCNT = 0 →
    pins.length + 1 = s.cfg.N → NoDetect (pins ++ [pin]) s →
    (∀ k, k < pins.length → ∃ u, (pinTable pins s)[k]? = some u ∧
      u.TRUN = true ∧ u.TCNT = k + 1 ∧ u.ARM = s.ARM ∧ u.EVT = Event.NONE) ∧
    ∃ t, runPins (pins ++ [pin]) s = .next t ∧ t.TRUN = false ∧ t.TCNT = 0 ∧
      t.ARM = (if pin = s.ARM then !s.ARM else s.ARM) ∧
      t.EVT = (if pin = s.ARM then classify s.cfg s.ARM else Event.NONE)

/-- R99: while each detected edge comes at most `N` ticks after the one before, no event is emitted, the timer keeps
running with `TCNT` the ticks since the last edge after every tick, and neither the armed edge nor `DUTY`, `OEN`, `IND` and
`TOG` move. -/
def Obligations.BouncingEmitsNothing : Prop :=
  ∀ (s : State) (pins : List Bit), Inv s → s.TRUN = true → EdgeWithin s.cfg.N s.TCNT pins s →
    eventsOf (pinTable pins s) = [] ∧ (pinTable pins s).length = pins.length ∧
    (pinTable pins s).map State.TCNT = edgeAges s.TCNT pins s ∧
    ∀ u ∈ pinTable pins s, u.TRUN = true ∧ u.ARM = s.ARM ∧ u.DUTY = s.DUTY ∧ u.OEN = s.OEN ∧ u.IND = s.IND ∧
      u.TOG = s.TOG

/-- R100: with `EMIT_RELEASE = 1` the events of any run of ticks alternate, beginning with PRESS exactly when the press
edge is armed; with `EMIT_RELEASE = 0` every event is a PRESS. -/
def Obligations.EventsAlternate : Prop :=
  ∀ (s : State) (pins : List Bit) (k : Nat) (e : EventCode), Inv s → (eventsOf (pinTable pins s))[k]? = some e →
    e = if s.cfg.EMIT_RELEASE then
          (if (decide (k % 2 = 0)) = decide (s.ARM = s.cfg.ACT) then Event.PRESS else Event.RELEASE)
        else Event.PRESS

/-- R110: after any run of ticks the duty is the step-or-wrap function applied once for each PRESS of the run. -/
def Obligations.DutyFollowsTheRatchet : Prop :=
  ∀ (s t : State) (pins : List Bit), Inv s → runPins pins s = .next t →
    t.DUTY = (stepOrWrap s.cfg)^[(eventsOf (pinTable pins s)).count Event.PRESS] s.DUTY

/-- R121: over a period in which the duty is constantly `d`, counted from the tick at which `PCNT` becomes 0, the waveform
is high exactly while `PCNT < d`. -/
def Obligations.SteadyWaveformIsHighBelowDuty : Prop :=
  ∀ (s : State) (pins : List Bit) (d k : Nat), Inv s → s.PCNT = s.cfg.PERIOD →
    pins.length ≤ s.cfg.PERIOD + 1 → (∀ u ∈ pinTable pins s, u.DUTY = d) → k < pins.length →
    ∃ u, (pinTable pins s)[k]? = some u ∧ u.PCNT = k ∧ u.PQ = decide (k < d)

/-- R101 in part: a run of ticks in which the armed edge never flips (every window in it was rejected) emits nothing and
leaves `DUTY`, `OEN`, `PLAT`, `IND` and `TOG` as they were, and if the timer is then idle its counter is 0. It says nothing of
`PIN_Q`, `TRUN`, `PCNT`, `PQ` and `pwm_out`, which may change: see `RejectedBurstDiffersOnlyInPinAndWaveform`. -/
def Obligations.RejectedWindowsKeepDutyOenPlatIndTog : Prop :=
  ∀ (s t : State) (pins : List Bit), Inv s → runPins pins s = .next t →
    (∀ u ∈ pinTable pins s, u.ARM = s.ARM) →
    eventsOf (pinTable pins s) = [] ∧ t.DUTY = s.DUTY ∧ t.OEN = s.OEN ∧ t.PLAT = s.PLAT ∧ t.IND = s.IND ∧
      t.TOG = s.TOG ∧ (t.TRUN = false → t.TCNT = 0)

/-- R101: from a state `s` with the timer idle, a run of ticks in which the armed edge never flips, then a tick that runs
DB_EXPIRE_REJECT: the state `t` after it is `s` but for `PIN_Q`, which holds the level that is not armed, the waveform
(`PCNT`, `PQ` and with them the `pwm_out` line, log 6), an event code of NONE (a pulse of the tick before `s` is over, R32)
and the environment's tick number (log 4). The next transition in the armed direction is detected, as a first one is. -/
def Obligations.RejectedBurstDiffersOnlyInPinAndWaveform : Prop :=
  ∀ (s u t : State) (pins : List Bit) (pin : Bit), Inv s → s.TRUN = false → runPins pins s = .next u →
    (∀ v ∈ pinTable pins s, v.ARM = s.ARM) → debounceOp u pin = .expireReject →
    tickWith (pinWord pin) u = .next t →
    t = { s with PIN_Q := !s.ARM, EVT := 0b00#2, PCNT := t.PCNT, PQ := t.PQ, pwmOut := t.pwmOut, ticks := t.ticks } ∧
      detects t s.ARM = true

/-- R114 to R118 against a sentence of R124 (log 11): there are runs from reset in which a step from `DUTY = 0` at
`PCNT' != 0` finds the waveform latch high, because the wrap of the same period left it high; `pwm_out` is then high at
once. 95_test_vectors.md P4, tick 34, shows one. -/
def Obligations.StepFromZeroCanFindTheLatchHigh : Prop :=
  ∃ (c : Config) (pins : List Bit) (pin : Bit) (s t : State),
    WellFormedConfig c ∧ runPins pins (State.powerOn c) = .next s ∧ tickWith (pinWord pin) s = .next t ∧
      s.DUTY = 0 ∧ t.EVT = Event.PRESS ∧ t.DUTY = c.STEP ∧ t.PCNT ≠ 0 ∧ t.PQ = true ∧ t.pwmOut = true

/-- R78, R79: the words of each statement of a stimulus program. -/
def Obligations.StatementsEncodeAsTheirWords : Prop :=
  ∀ (c : Config) (k : Nat),
    expandStmt c .rst = [0b10#2] ∧ expandStmt c (.t0 k) = List.replicate k 0b00#2 ∧
    expandStmt c (.t1 k) = List.replicate k 0b01#2 ∧
    expandStmt c (.press k) = List.replicate k (pinWord c.ACT) ∧
    expandStmt c (.rel k) = List.replicate k (pinWord (!c.ACT))
end

