-- ==== Sys2Proof/Laws/State.lean ====
section
/-! SUPPORT. What each named update of the state does to each field, true by definition: one lemma per update and
field. -/

namespace Sys2Proof.Machine

/-! ### `State.setARM` -/

@[simp] theorem State.setARM_cfg (s : State) (b : Bit) : (s.setARM b).cfg = s.cfg := rfl
@[simp] theorem State.setARM_ARM (s : State) (b : Bit) : (s.setARM b).ARM = b := rfl
@[simp] theorem State.setARM_TRUN (s : State) (b : Bit) : (s.setARM b).TRUN = s.TRUN := rfl
@[simp] theorem State.setARM_TCNT (s : State) (b : Bit) : (s.setARM b).TCNT = s.TCNT := rfl
@[simp] theorem State.setARM_PIN_Q (s : State) (b : Bit) : (s.setARM b).PIN_Q = s.PIN_Q := rfl
@[simp] theorem State.setARM_EIFG (s : State) (b : Bit) : (s.setARM b).EIFG = s.EIFG := rfl
@[simp] theorem State.setARM_TIFG (s : State) (b : Bit) : (s.setARM b).TIFG = s.TIFG := rfl
@[simp] theorem State.setARM_EVT (s : State) (b : Bit) : (s.setARM b).EVT = s.EVT := rfl
@[simp] theorem State.setARM_DUTY (s : State) (b : Bit) : (s.setARM b).DUTY = s.DUTY := rfl
@[simp] theorem State.setARM_OEN (s : State) (b : Bit) : (s.setARM b).OEN = s.OEN := rfl
@[simp] theorem State.setARM_PLAT (s : State) (b : Bit) : (s.setARM b).PLAT = s.PLAT := rfl
@[simp] theorem State.setARM_IND (s : State) (b : Bit) : (s.setARM b).IND = s.IND := rfl
@[simp] theorem State.setARM_TOG (s : State) (b : Bit) : (s.setARM b).TOG = s.TOG := rfl
@[simp] theorem State.setARM_PCNT (s : State) (b : Bit) : (s.setARM b).PCNT = s.PCNT := rfl
@[simp] theorem State.setARM_PQ (s : State) (b : Bit) : (s.setARM b).PQ = s.PQ := rfl
@[simp] theorem State.setARM_fault (s : State) (b : Bit) : (s.setARM b).fault = s.fault := rfl
@[simp] theorem State.setARM_sig (s : State) (b : Bit) : (s.setARM b).sig = s.sig := rfl
@[simp] theorem State.setARM_pwmOut (s : State) (b : Bit) : (s.setARM b).pwmOut = s.pwmOut := rfl
@[simp] theorem State.setARM_stim (s : State) (b : Bit) : (s.setARM b).stim = s.stim := rfl
@[simp] theorem State.setARM_ticks (s : State) (b : Bit) : (s.setARM b).ticks = s.ticks := rfl

/-! ### `State.setTRUN` -/

@[simp] theorem State.setTRUN_cfg (s : State) (b : Bit) : (s.setTRUN b).cfg = s.cfg := rfl
@[simp] theorem State.setTRUN_ARM (s : State) (b : Bit) : (s.setTRUN b).ARM = s.ARM := rfl
@[simp] theorem State.setTRUN_TRUN (s : State) (b : Bit) : (s.setTRUN b).TRUN = b := rfl
@[simp] theorem State.setTRUN_TCNT (s : State) (b : Bit) : (s.setTRUN b).TCNT = s.TCNT := rfl
@[simp] theorem State.setTRUN_PIN_Q (s : State) (b : Bit) : (s.setTRUN b).PIN_Q = s.PIN_Q := rfl
@[simp] theorem State.setTRUN_EIFG (s : State) (b : Bit) : (s.setTRUN b).EIFG = s.EIFG := rfl
@[simp] theorem State.setTRUN_TIFG (s : State) (b : Bit) : (s.setTRUN b).TIFG = s.TIFG := rfl
@[simp] theorem State.setTRUN_EVT (s : State) (b : Bit) : (s.setTRUN b).EVT = s.EVT := rfl
@[simp] theorem State.setTRUN_DUTY (s : State) (b : Bit) : (s.setTRUN b).DUTY = s.DUTY := rfl
@[simp] theorem State.setTRUN_OEN (s : State) (b : Bit) : (s.setTRUN b).OEN = s.OEN := rfl
@[simp] theorem State.setTRUN_PLAT (s : State) (b : Bit) : (s.setTRUN b).PLAT = s.PLAT := rfl
@[simp] theorem State.setTRUN_IND (s : State) (b : Bit) : (s.setTRUN b).IND = s.IND := rfl
@[simp] theorem State.setTRUN_TOG (s : State) (b : Bit) : (s.setTRUN b).TOG = s.TOG := rfl
@[simp] theorem State.setTRUN_PCNT (s : State) (b : Bit) : (s.setTRUN b).PCNT = s.PCNT := rfl
@[simp] theorem State.setTRUN_PQ (s : State) (b : Bit) : (s.setTRUN b).PQ = s.PQ := rfl
@[simp] theorem State.setTRUN_fault (s : State) (b : Bit) : (s.setTRUN b).fault = s.fault := rfl
@[simp] theorem State.setTRUN_sig (s : State) (b : Bit) : (s.setTRUN b).sig = s.sig := rfl
@[simp] theorem State.setTRUN_pwmOut (s : State) (b : Bit) : (s.setTRUN b).pwmOut = s.pwmOut := rfl
@[simp] theorem State.setTRUN_stim (s : State) (b : Bit) : (s.setTRUN b).stim = s.stim := rfl
@[simp] theorem State.setTRUN_ticks (s : State) (b : Bit) : (s.setTRUN b).ticks = s.ticks := rfl

/-! ### `State.setTCNT` -/

@[simp] theorem State.setTCNT_cfg (s : State) (v : Nat) : (s.setTCNT v).cfg = s.cfg := rfl
@[simp] theorem State.setTCNT_ARM (s : State) (v : Nat) : (s.setTCNT v).ARM = s.ARM := rfl
@[simp] theorem State.setTCNT_TRUN (s : State) (v : Nat) : (s.setTCNT v).TRUN = s.TRUN := rfl
@[simp] theorem State.setTCNT_TCNT (s : State) (v : Nat) : (s.setTCNT v).TCNT = fitWidth s.cfg.TIMER_W v := rfl
@[simp] theorem State.setTCNT_PIN_Q (s : State) (v : Nat) : (s.setTCNT v).PIN_Q = s.PIN_Q := rfl
@[simp] theorem State.setTCNT_EIFG (s : State) (v : Nat) : (s.setTCNT v).EIFG = s.EIFG := rfl
@[simp] theorem State.setTCNT_TIFG (s : State) (v : Nat) : (s.setTCNT v).TIFG = s.TIFG := rfl
@[simp] theorem State.setTCNT_EVT (s : State) (v : Nat) : (s.setTCNT v).EVT = s.EVT := rfl
@[simp] theorem State.setTCNT_DUTY (s : State) (v : Nat) : (s.setTCNT v).DUTY = s.DUTY := rfl
@[simp] theorem State.setTCNT_OEN (s : State) (v : Nat) : (s.setTCNT v).OEN = s.OEN := rfl
@[simp] theorem State.setTCNT_PLAT (s : State) (v : Nat) : (s.setTCNT v).PLAT = s.PLAT := rfl
@[simp] theorem State.setTCNT_IND (s : State) (v : Nat) : (s.setTCNT v).IND = s.IND := rfl
@[simp] theorem State.setTCNT_TOG (s : State) (v : Nat) : (s.setTCNT v).TOG = s.TOG := rfl
@[simp] theorem State.setTCNT_PCNT (s : State) (v : Nat) : (s.setTCNT v).PCNT = s.PCNT := rfl
@[simp] theorem State.setTCNT_PQ (s : State) (v : Nat) : (s.setTCNT v).PQ = s.PQ := rfl
@[simp] theorem State.setTCNT_fault (s : State) (v : Nat) : (s.setTCNT v).fault = s.fault := rfl
@[simp] theorem State.setTCNT_sig (s : State) (v : Nat) : (s.setTCNT v).sig = s.sig := rfl
@[simp] theorem State.setTCNT_pwmOut (s : State) (v : Nat) : (s.setTCNT v).pwmOut = s.pwmOut := rfl
@[simp] theorem State.setTCNT_stim (s : State) (v : Nat) : (s.setTCNT v).stim = s.stim := rfl
@[simp] theorem State.setTCNT_ticks (s : State) (v : Nat) : (s.setTCNT v).ticks = s.ticks := rfl

/-! ### `State.setEIFG` -/

@[simp] theorem State.setEIFG_cfg (s : State) (b : Bit) : (s.setEIFG b).cfg = s.cfg := rfl
@[simp] theorem State.setEIFG_ARM (s : State) (b : Bit) : (s.setEIFG b).ARM = s.ARM := rfl
@[simp] theorem State.setEIFG_TRUN (s : State) (b : Bit) : (s.setEIFG b).TRUN = s.TRUN := rfl
@[simp] theorem State.setEIFG_TCNT (s : State) (b : Bit) : (s.setEIFG b).TCNT = s.TCNT := rfl
@[simp] theorem State.setEIFG_PIN_Q (s : State) (b : Bit) : (s.setEIFG b).PIN_Q = s.PIN_Q := rfl
@[simp] theorem State.setEIFG_EIFG (s : State) (b : Bit) : (s.setEIFG b).EIFG = b := rfl
@[simp] theorem State.setEIFG_TIFG (s : State) (b : Bit) : (s.setEIFG b).TIFG = s.TIFG := rfl
@[simp] theorem State.setEIFG_EVT (s : State) (b : Bit) : (s.setEIFG b).EVT = s.EVT := rfl
@[simp] theorem State.setEIFG_DUTY (s : State) (b : Bit) : (s.setEIFG b).DUTY = s.DUTY := rfl
@[simp] theorem State.setEIFG_OEN (s : State) (b : Bit) : (s.setEIFG b).OEN = s.OEN := rfl
@[simp] theorem State.setEIFG_PLAT (s : State) (b : Bit) : (s.setEIFG b).PLAT = s.PLAT := rfl
@[simp] theorem State.setEIFG_IND (s : State) (b : Bit) : (s.setEIFG b).IND = s.IND := rfl
@[simp] theorem State.setEIFG_TOG (s : State) (b : Bit) : (s.setEIFG b).TOG = s.TOG := rfl
@[simp] theorem State.setEIFG_PCNT (s : State) (b : Bit) : (s.setEIFG b).PCNT = s.PCNT := rfl
@[simp] theorem State.setEIFG_PQ (s : State) (b : Bit) : (s.setEIFG b).PQ = s.PQ := rfl
@[simp] theorem State.setEIFG_fault (s : State) (b : Bit) : (s.setEIFG b).fault = s.fault := rfl
@[simp] theorem State.setEIFG_sig (s : State) (b : Bit) : (s.setEIFG b).sig = s.sig := rfl
@[simp] theorem State.setEIFG_pwmOut (s : State) (b : Bit) : (s.setEIFG b).pwmOut = s.pwmOut := rfl
@[simp] theorem State.setEIFG_stim (s : State) (b : Bit) : (s.setEIFG b).stim = s.stim := rfl
@[simp] theorem State.setEIFG_ticks (s : State) (b : Bit) : (s.setEIFG b).ticks = s.ticks := rfl

/-! ### `State.setTIFG` -/

@[simp] theorem State.setTIFG_cfg (s : State) (b : Bit) : (s.setTIFG b).cfg = s.cfg := rfl
@[simp] theorem State.setTIFG_ARM (s : State) (b : Bit) : (s.setTIFG b).ARM = s.ARM := rfl
@[simp] theorem State.setTIFG_TRUN (s : State) (b : Bit) : (s.setTIFG b).TRUN = s.TRUN := rfl
@[simp] theorem State.setTIFG_TCNT (s : State) (b : Bit) : (s.setTIFG b).TCNT = s.TCNT := rfl
@[simp] theorem State.setTIFG_PIN_Q (s : State) (b : Bit) : (s.setTIFG b).PIN_Q = s.PIN_Q := rfl
@[simp] theorem State.setTIFG_EIFG (s : State) (b : Bit) : (s.setTIFG b).EIFG = s.EIFG := rfl
@[simp] theorem State.setTIFG_TIFG (s : State) (b : Bit) : (s.setTIFG b).TIFG = b := rfl
@[simp] theorem State.setTIFG_EVT (s : State) (b : Bit) : (s.setTIFG b).EVT = s.EVT := rfl
@[simp] theorem State.setTIFG_DUTY (s : State) (b : Bit) : (s.setTIFG b).DUTY = s.DUTY := rfl
@[simp] theorem State.setTIFG_OEN (s : State) (b : Bit) : (s.setTIFG b).OEN = s.OEN := rfl
@[simp] theorem State.setTIFG_PLAT (s : State) (b : Bit) : (s.setTIFG b).PLAT = s.PLAT := rfl
@[simp] theorem State.setTIFG_IND (s : State) (b : Bit) : (s.setTIFG b).IND = s.IND := rfl
@[simp] theorem State.setTIFG_TOG (s : State) (b : Bit) : (s.setTIFG b).TOG = s.TOG := rfl
@[simp] theorem State.setTIFG_PCNT (s : State) (b : Bit) : (s.setTIFG b).PCNT = s.PCNT := rfl
@[simp] theorem State.setTIFG_PQ (s : State) (b : Bit) : (s.setTIFG b).PQ = s.PQ := rfl
@[simp] theorem State.setTIFG_fault (s : State) (b : Bit) : (s.setTIFG b).fault = s.fault := rfl
@[simp] theorem State.setTIFG_sig (s : State) (b : Bit) : (s.setTIFG b).sig = s.sig := rfl
@[simp] theorem State.setTIFG_pwmOut (s : State) (b : Bit) : (s.setTIFG b).pwmOut = s.pwmOut := rfl
@[simp] theorem State.setTIFG_stim (s : State) (b : Bit) : (s.setTIFG b).stim = s.stim := rfl
@[simp] theorem State.setTIFG_ticks (s : State) (b : Bit) : (s.setTIFG b).ticks = s.ticks := rfl

/-! ### `State.setDUTY` -/

@[simp] theorem State.setDUTY_cfg (s : State) (v : Nat) : (s.setDUTY v).cfg = s.cfg := rfl
@[simp] theorem State.setDUTY_ARM (s : State) (v : Nat) : (s.setDUTY v).ARM = s.ARM := rfl
@[simp] theorem State.setDUTY_TRUN (s : State) (v : Nat) : (s.setDUTY v).TRUN = s.TRUN := rfl
@[simp] theorem State.setDUTY_TCNT (s : State) (v : Nat) : (s.setDUTY v).TCNT = s.TCNT := rfl
@[simp] theorem State.setDUTY_PIN_Q (s : State) (v : Nat) : (s.setDUTY v).PIN_Q = s.PIN_Q := rfl
@[simp] theorem State.setDUTY_EIFG (s : State) (v : Nat) : (s.setDUTY v).EIFG = s.EIFG := rfl
@[simp] theorem State.setDUTY_TIFG (s : State) (v : Nat) : (s.setDUTY v).TIFG = s.TIFG := rfl
@[simp] theorem State.setDUTY_EVT (s : State) (v : Nat) : (s.setDUTY v).EVT = s.EVT := rfl
@[simp] theorem State.setDUTY_DUTY (s : State) (v : Nat) : (s.setDUTY v).DUTY = fitWidth s.cfg.DUTY_W v := rfl
@[simp] theorem State.setDUTY_OEN (s : State) (v : Nat) : (s.setDUTY v).OEN = s.OEN := rfl
@[simp] theorem State.setDUTY_PLAT (s : State) (v : Nat) : (s.setDUTY v).PLAT = s.PLAT := rfl
@[simp] theorem State.setDUTY_IND (s : State) (v : Nat) : (s.setDUTY v).IND = s.IND := rfl
@[simp] theorem State.setDUTY_TOG (s : State) (v : Nat) : (s.setDUTY v).TOG = s.TOG := rfl
@[simp] theorem State.setDUTY_PCNT (s : State) (v : Nat) : (s.setDUTY v).PCNT = s.PCNT := rfl
@[simp] theorem State.setDUTY_PQ (s : State) (v : Nat) : (s.setDUTY v).PQ = s.PQ := rfl
@[simp] theorem State.setDUTY_fault (s : State) (v : Nat) : (s.setDUTY v).fault = s.fault := rfl
@[simp] theorem State.setDUTY_sig (s : State) (v : Nat) : (s.setDUTY v).sig = s.sig := rfl
@[simp] theorem State.setDUTY_pwmOut (s : State) (v : Nat) : (s.setDUTY v).pwmOut = s.pwmOut := rfl
@[simp] theorem State.setDUTY_stim (s : State) (v : Nat) : (s.setDUTY v).stim = s.stim := rfl
@[simp] theorem State.setDUTY_ticks (s : State) (v : Nat) : (s.setDUTY v).ticks = s.ticks := rfl

/-! ### `State.setOEN` -/

@[simp] theorem State.setOEN_cfg (s : State) (b : Bit) : (s.setOEN b).cfg = s.cfg := rfl
@[simp] theorem State.setOEN_ARM (s : State) (b : Bit) : (s.setOEN b).ARM = s.ARM := rfl
@[simp] theorem State.setOEN_TRUN (s : State) (b : Bit) : (s.setOEN b).TRUN = s.TRUN := rfl
@[simp] theorem State.setOEN_TCNT (s : State) (b : Bit) : (s.setOEN b).TCNT = s.TCNT := rfl
@[simp] theorem State.setOEN_PIN_Q (s : State) (b : Bit) : (s.setOEN b).PIN_Q = s.PIN_Q := rfl
@[simp] theorem State.setOEN_EIFG (s : State) (b : Bit) : (s.setOEN b).EIFG = s.EIFG := rfl
@[simp] theorem State.setOEN_TIFG (s : State) (b : Bit) : (s.setOEN b).TIFG = s.TIFG := rfl
@[simp] theorem State.setOEN_EVT (s : State) (b : Bit) : (s.setOEN b).EVT = s.EVT := rfl
@[simp] theorem State.setOEN_DUTY (s : State) (b : Bit) : (s.setOEN b).DUTY = s.DUTY := rfl
@[simp] theorem State.setOEN_OEN (s : State) (b : Bit) : (s.setOEN b).OEN = b := rfl
@[simp] theorem State.setOEN_PLAT (s : State) (b : Bit) : (s.setOEN b).PLAT = s.PLAT := rfl
@[simp] theorem State.setOEN_IND (s : State) (b : Bit) : (s.setOEN b).IND = s.IND := rfl
@[simp] theorem State.setOEN_TOG (s : State) (b : Bit) : (s.setOEN b).TOG = s.TOG := rfl
@[simp] theorem State.setOEN_PCNT (s : State) (b : Bit) : (s.setOEN b).PCNT = s.PCNT := rfl
@[simp] theorem State.setOEN_PQ (s : State) (b : Bit) : (s.setOEN b).PQ = s.PQ := rfl
@[simp] theorem State.setOEN_fault (s : State) (b : Bit) : (s.setOEN b).fault = s.fault := rfl
@[simp] theorem State.setOEN_sig (s : State) (b : Bit) : (s.setOEN b).sig = s.sig := rfl
@[simp] theorem State.setOEN_pwmOut (s : State) (b : Bit) : (s.setOEN b).pwmOut = s.pwmOut := rfl
@[simp] theorem State.setOEN_stim (s : State) (b : Bit) : (s.setOEN b).stim = s.stim := rfl
@[simp] theorem State.setOEN_ticks (s : State) (b : Bit) : (s.setOEN b).ticks = s.ticks := rfl

/-! ### `State.setPLAT` -/

@[simp] theorem State.setPLAT_cfg (s : State) (b : Bit) : (s.setPLAT b).cfg = s.cfg := rfl
@[simp] theorem State.setPLAT_ARM (s : State) (b : Bit) : (s.setPLAT b).ARM = s.ARM := rfl
@[simp] theorem State.setPLAT_TRUN (s : State) (b : Bit) : (s.setPLAT b).TRUN = s.TRUN := rfl
@[simp] theorem State.setPLAT_TCNT (s : State) (b : Bit) : (s.setPLAT b).TCNT = s.TCNT := rfl
@[simp] theorem State.setPLAT_PIN_Q (s : State) (b : Bit) : (s.setPLAT b).PIN_Q = s.PIN_Q := rfl
@[simp] theorem State.setPLAT_EIFG (s : State) (b : Bit) : (s.setPLAT b).EIFG = s.EIFG := rfl
@[simp] theorem State.setPLAT_TIFG (s : State) (b : Bit) : (s.setPLAT b).TIFG = s.TIFG := rfl
@[simp] theorem State.setPLAT_EVT (s : State) (b : Bit) : (s.setPLAT b).EVT = s.EVT := rfl
@[simp] theorem State.setPLAT_DUTY (s : State) (b : Bit) : (s.setPLAT b).DUTY = s.DUTY := rfl
@[simp] theorem State.setPLAT_OEN (s : State) (b : Bit) : (s.setPLAT b).OEN = s.OEN := rfl
@[simp] theorem State.setPLAT_PLAT (s : State) (b : Bit) : (s.setPLAT b).PLAT = b := rfl
@[simp] theorem State.setPLAT_IND (s : State) (b : Bit) : (s.setPLAT b).IND = s.IND := rfl
@[simp] theorem State.setPLAT_TOG (s : State) (b : Bit) : (s.setPLAT b).TOG = s.TOG := rfl
@[simp] theorem State.setPLAT_PCNT (s : State) (b : Bit) : (s.setPLAT b).PCNT = s.PCNT := rfl
@[simp] theorem State.setPLAT_PQ (s : State) (b : Bit) : (s.setPLAT b).PQ = s.PQ := rfl
@[simp] theorem State.setPLAT_fault (s : State) (b : Bit) : (s.setPLAT b).fault = s.fault := rfl
@[simp] theorem State.setPLAT_sig (s : State) (b : Bit) : (s.setPLAT b).sig = s.sig := rfl
@[simp] theorem State.setPLAT_pwmOut (s : State) (b : Bit) : (s.setPLAT b).pwmOut = s.pwmOut := rfl
@[simp] theorem State.setPLAT_stim (s : State) (b : Bit) : (s.setPLAT b).stim = s.stim := rfl
@[simp] theorem State.setPLAT_ticks (s : State) (b : Bit) : (s.setPLAT b).ticks = s.ticks := rfl

/-! ### `State.setIND` -/

@[simp] theorem State.setIND_cfg (s : State) (b : Bit) : (s.setIND b).cfg = s.cfg := rfl
@[simp] theorem State.setIND_ARM (s : State) (b : Bit) : (s.setIND b).ARM = s.ARM := rfl
@[simp] theorem State.setIND_TRUN (s : State) (b : Bit) : (s.setIND b).TRUN = s.TRUN := rfl
@[simp] theorem State.setIND_TCNT (s : State) (b : Bit) : (s.setIND b).TCNT = s.TCNT := rfl
@[simp] theorem State.setIND_PIN_Q (s : State) (b : Bit) : (s.setIND b).PIN_Q = s.PIN_Q := rfl
@[simp] theorem State.setIND_EIFG (s : State) (b : Bit) : (s.setIND b).EIFG = s.EIFG := rfl
@[simp] theorem State.setIND_TIFG (s : State) (b : Bit) : (s.setIND b).TIFG = s.TIFG := rfl
@[simp] theorem State.setIND_EVT (s : State) (b : Bit) : (s.setIND b).EVT = s.EVT := rfl
@[simp] theorem State.setIND_DUTY (s : State) (b : Bit) : (s.setIND b).DUTY = s.DUTY := rfl
@[simp] theorem State.setIND_OEN (s : State) (b : Bit) : (s.setIND b).OEN = s.OEN := rfl
@[simp] theorem State.setIND_PLAT (s : State) (b : Bit) : (s.setIND b).PLAT = s.PLAT := rfl
@[simp] theorem State.setIND_IND (s : State) (b : Bit) : (s.setIND b).IND = b := rfl
@[simp] theorem State.setIND_TOG (s : State) (b : Bit) : (s.setIND b).TOG = s.TOG := rfl
@[simp] theorem State.setIND_PCNT (s : State) (b : Bit) : (s.setIND b).PCNT = s.PCNT := rfl
@[simp] theorem State.setIND_PQ (s : State) (b : Bit) : (s.setIND b).PQ = s.PQ := rfl
@[simp] theorem State.setIND_fault (s : State) (b : Bit) : (s.setIND b).fault = s.fault := rfl
@[simp] theorem State.setIND_sig (s : State) (b : Bit) : (s.setIND b).sig = s.sig := rfl
@[simp] theorem State.setIND_pwmOut (s : State) (b : Bit) : (s.setIND b).pwmOut = s.pwmOut := rfl
@[simp] theorem State.setIND_stim (s : State) (b : Bit) : (s.setIND b).stim = s.stim := rfl
@[simp] theorem State.setIND_ticks (s : State) (b : Bit) : (s.setIND b).ticks = s.ticks := rfl

/-! ### `State.setTOG` -/

@[simp] theorem State.setTOG_cfg (s : State) (b : Bit) : (s.setTOG b).cfg = s.cfg := rfl
@[simp] theorem State.setTOG_ARM (s : State) (b : Bit) : (s.setTOG b).ARM = s.ARM := rfl
@[simp] theorem State.setTOG_TRUN (s : State) (b : Bit) : (s.setTOG b).TRUN = s.TRUN := rfl
@[simp] theorem State.setTOG_TCNT (s : State) (b : Bit) : (s.setTOG b).TCNT = s.TCNT := rfl
@[simp] theorem State.setTOG_PIN_Q (s : State) (b : Bit) : (s.setTOG b).PIN_Q = s.PIN_Q := rfl
@[simp] theorem State.setTOG_EIFG (s : State) (b : Bit) : (s.setTOG b).EIFG = s.EIFG := rfl
@[simp] theorem State.setTOG_TIFG (s : State) (b : Bit) : (s.setTOG b).TIFG = s.TIFG := rfl
@[simp] theorem State.setTOG_EVT (s : State) (b : Bit) : (s.setTOG b).EVT = s.EVT := rfl
@[simp] theorem State.setTOG_DUTY (s : State) (b : Bit) : (s.setTOG b).DUTY = s.DUTY := rfl
@[simp] theorem State.setTOG_OEN (s : State) (b : Bit) : (s.setTOG b).OEN = s.OEN := rfl
@[simp] theorem State.setTOG_PLAT (s : State) (b : Bit) : (s.setTOG b).PLAT = s.PLAT := rfl
@[simp] theorem State.setTOG_IND (s : State) (b : Bit) : (s.setTOG b).IND = s.IND := rfl
@[simp] theorem State.setTOG_TOG (s : State) (b : Bit) : (s.setTOG b).TOG = b := rfl
@[simp] theorem State.setTOG_PCNT (s : State) (b : Bit) : (s.setTOG b).PCNT = s.PCNT := rfl
@[simp] theorem State.setTOG_PQ (s : State) (b : Bit) : (s.setTOG b).PQ = s.PQ := rfl
@[simp] theorem State.setTOG_fault (s : State) (b : Bit) : (s.setTOG b).fault = s.fault := rfl
@[simp] theorem State.setTOG_sig (s : State) (b : Bit) : (s.setTOG b).sig = s.sig := rfl
@[simp] theorem State.setTOG_pwmOut (s : State) (b : Bit) : (s.setTOG b).pwmOut = s.pwmOut := rfl
@[simp] theorem State.setTOG_stim (s : State) (b : Bit) : (s.setTOG b).stim = s.stim := rfl
@[simp] theorem State.setTOG_ticks (s : State) (b : Bit) : (s.setTOG b).ticks = s.ticks := rfl

/-! ### `State.setPCNT` -/

@[simp] theorem State.setPCNT_cfg (s : State) (v : Nat) : (s.setPCNT v).cfg = s.cfg := rfl
@[simp] theorem State.setPCNT_ARM (s : State) (v : Nat) : (s.setPCNT v).ARM = s.ARM := rfl
@[simp] theorem State.setPCNT_TRUN (s : State) (v : Nat) : (s.setPCNT v).TRUN = s.TRUN := rfl
@[simp] theorem State.setPCNT_TCNT (s : State) (v : Nat) : (s.setPCNT v).TCNT = s.TCNT := rfl
@[simp] theorem State.setPCNT_PIN_Q (s : State) (v : Nat) : (s.setPCNT v).PIN_Q = s.PIN_Q := rfl
@[simp] theorem State.setPCNT_EIFG (s : State) (v : Nat) : (s.setPCNT v).EIFG = s.EIFG := rfl
@[simp] theorem State.setPCNT_TIFG (s : State) (v : Nat) : (s.setPCNT v).TIFG = s.TIFG := rfl
@[simp] theorem State.setPCNT_EVT (s : State) (v : Nat) : (s.setPCNT v).EVT = s.EVT := rfl
@[simp] theorem State.setPCNT_DUTY (s : State) (v : Nat) : (s.setPCNT v).DUTY = s.DUTY := rfl
@[simp] theorem State.setPCNT_OEN (s : State) (v : Nat) : (s.setPCNT v).OEN = s.OEN := rfl
@[simp] theorem State.setPCNT_PLAT (s : State) (v : Nat) : (s.setPCNT v).PLAT = s.PLAT := rfl
@[simp] theorem State.setPCNT_IND (s : State) (v : Nat) : (s.setPCNT v).IND = s.IND := rfl
@[simp] theorem State.setPCNT_TOG (s : State) (v : Nat) : (s.setPCNT v).TOG = s.TOG := rfl
@[simp] theorem State.setPCNT_PCNT (s : State) (v : Nat) : (s.setPCNT v).PCNT = fitWidth s.cfg.DUTY_W v := rfl
@[simp] theorem State.setPCNT_PQ (s : State) (v : Nat) : (s.setPCNT v).PQ = s.PQ := rfl
@[simp] theorem State.setPCNT_fault (s : State) (v : Nat) : (s.setPCNT v).fault = s.fault := rfl
@[simp] theorem State.setPCNT_sig (s : State) (v : Nat) : (s.setPCNT v).sig = s.sig := rfl
@[simp] theorem State.setPCNT_pwmOut (s : State) (v : Nat) : (s.setPCNT v).pwmOut = s.pwmOut := rfl
@[simp] theorem State.setPCNT_stim (s : State) (v : Nat) : (s.setPCNT v).stim = s.stim := rfl
@[simp] theorem State.setPCNT_ticks (s : State) (v : Nat) : (s.setPCNT v).ticks = s.ticks := rfl

/-! ### `State.setPQ` -/

@[simp] theorem State.setPQ_cfg (s : State) (b : Bit) : (s.setPQ b).cfg = s.cfg := rfl
@[simp] theorem State.setPQ_ARM (s : State) (b : Bit) : (s.setPQ b).ARM = s.ARM := rfl
@[simp] theorem State.setPQ_TRUN (s : State) (b : Bit) : (s.setPQ b).TRUN = s.TRUN := rfl
@[simp] theorem State.setPQ_TCNT (s : State) (b : Bit) : (s.setPQ b).TCNT = s.TCNT := rfl
@[simp] theorem State.setPQ_PIN_Q (s : State) (b : Bit) : (s.setPQ b).PIN_Q = s.PIN_Q := rfl
@[simp] theorem State.setPQ_EIFG (s : State) (b : Bit) : (s.setPQ b).EIFG = s.EIFG := rfl
@[simp] theorem State.setPQ_TIFG (s : State) (b : Bit) : (s.setPQ b).TIFG = s.TIFG := rfl
@[simp] theorem State.setPQ_EVT (s : State) (b : Bit) : (s.setPQ b).EVT = s.EVT := rfl
@[simp] theorem State.setPQ_DUTY (s : State) (b : Bit) : (s.setPQ b).DUTY = s.DUTY := rfl
@[simp] theorem State.setPQ_OEN (s : State) (b : Bit) : (s.setPQ b).OEN = s.OEN := rfl
@[simp] theorem State.setPQ_PLAT (s : State) (b : Bit) : (s.setPQ b).PLAT = s.PLAT := rfl
@[simp] theorem State.setPQ_IND (s : State) (b : Bit) : (s.setPQ b).IND = s.IND := rfl
@[simp] theorem State.setPQ_TOG (s : State) (b : Bit) : (s.setPQ b).TOG = s.TOG := rfl
@[simp] theorem State.setPQ_PCNT (s : State) (b : Bit) : (s.setPQ b).PCNT = s.PCNT := rfl
@[simp] theorem State.setPQ_PQ (s : State) (b : Bit) : (s.setPQ b).PQ = b := rfl
@[simp] theorem State.setPQ_fault (s : State) (b : Bit) : (s.setPQ b).fault = s.fault := rfl
@[simp] theorem State.setPQ_sig (s : State) (b : Bit) : (s.setPQ b).sig = s.sig := rfl
@[simp] theorem State.setPQ_pwmOut (s : State) (b : Bit) : (s.setPQ b).pwmOut = s.pwmOut := rfl
@[simp] theorem State.setPQ_stim (s : State) (b : Bit) : (s.setPQ b).stim = s.stim := rfl
@[simp] theorem State.setPQ_ticks (s : State) (b : Bit) : (s.setPQ b).ticks = s.ticks := rfl

/-! ### `State.setPin` -/

@[simp] theorem State.setPin_cfg (s : State) (b : Bit) : (s.setPin b).cfg = s.cfg := rfl
@[simp] theorem State.setPin_ARM (s : State) (b : Bit) : (s.setPin b).ARM = s.ARM := rfl
@[simp] theorem State.setPin_TRUN (s : State) (b : Bit) : (s.setPin b).TRUN = s.TRUN := rfl
@[simp] theorem State.setPin_TCNT (s : State) (b : Bit) : (s.setPin b).TCNT = s.TCNT := rfl
@[simp] theorem State.setPin_PIN_Q (s : State) (b : Bit) : (s.setPin b).PIN_Q = s.PIN_Q := rfl
@[simp] theorem State.setPin_EIFG (s : State) (b : Bit) : (s.setPin b).EIFG = s.EIFG := rfl
@[simp] theorem State.setPin_TIFG (s : State) (b : Bit) : (s.setPin b).TIFG = s.TIFG := rfl
@[simp] theorem State.setPin_EVT (s : State) (b : Bit) : (s.setPin b).EVT = s.EVT := rfl
@[simp] theorem State.setPin_DUTY (s : State) (b : Bit) : (s.setPin b).DUTY = s.DUTY := rfl
@[simp] theorem State.setPin_OEN (s : State) (b : Bit) : (s.setPin b).OEN = s.OEN := rfl
@[simp] theorem State.setPin_PLAT (s : State) (b : Bit) : (s.setPin b).PLAT = s.PLAT := rfl
@[simp] theorem State.setPin_IND (s : State) (b : Bit) : (s.setPin b).IND = s.IND := rfl
@[simp] theorem State.setPin_TOG (s : State) (b : Bit) : (s.setPin b).TOG = s.TOG := rfl
@[simp] theorem State.setPin_PCNT (s : State) (b : Bit) : (s.setPin b).PCNT = s.PCNT := rfl
@[simp] theorem State.setPin_PQ (s : State) (b : Bit) : (s.setPin b).PQ = s.PQ := rfl
@[simp] theorem State.setPin_fault (s : State) (b : Bit) : (s.setPin b).fault = s.fault := rfl
@[simp] theorem State.setPin_sig (s : State) (b : Bit) : (s.setPin b).sig = { s.sig with pin := b } := rfl
@[simp] theorem State.setPin_pwmOut (s : State) (b : Bit) : (s.setPin b).pwmOut = s.pwmOut := rfl
@[simp] theorem State.setPin_stim (s : State) (b : Bit) : (s.setPin b).stim = s.stim := rfl
@[simp] theorem State.setPin_ticks (s : State) (b : Bit) : (s.setPin b).ticks = s.ticks := rfl

/-! ### `State.setDet` -/

@[simp] theorem State.setDet_cfg (s : State) (b : Bit) : (s.setDet b).cfg = s.cfg := rfl
@[simp] theorem State.setDet_ARM (s : State) (b : Bit) : (s.setDet b).ARM = s.ARM := rfl
@[simp] theorem State.setDet_TRUN (s : State) (b : Bit) : (s.setDet b).TRUN = s.TRUN := rfl
@[simp] theorem State.setDet_TCNT (s : State) (b : Bit) : (s.setDet b).TCNT = s.TCNT := rfl
@[simp] theorem State.setDet_PIN_Q (s : State) (b : Bit) : (s.setDet b).PIN_Q = s.PIN_Q := rfl
@[simp] theorem State.setDet_EIFG (s : State) (b : Bit) : (s.setDet b).EIFG = s.EIFG := rfl
@[simp] theorem State.setDet_TIFG (s : State) (b : Bit) : (s.setDet b).TIFG = s.TIFG := rfl
@[simp] theorem State.setDet_EVT (s : State) (b : Bit) : (s.setDet b).EVT = s.EVT := rfl
@[simp] theorem State.setDet_DUTY (s : State) (b : Bit) : (s.setDet b).DUTY = s.DUTY := rfl
@[simp] theorem State.setDet_OEN (s : State) (b : Bit) : (s.setDet b).OEN = s.OEN := rfl
@[simp] theorem State.setDet_PLAT (s : State) (b : Bit) : (s.setDet b).PLAT = s.PLAT := rfl
@[simp] theorem State.setDet_IND (s : State) (b : Bit) : (s.setDet b).IND = s.IND := rfl
@[simp] theorem State.setDet_TOG (s : State) (b : Bit) : (s.setDet b).TOG = s.TOG := rfl
@[simp] theorem State.setDet_PCNT (s : State) (b : Bit) : (s.setDet b).PCNT = s.PCNT := rfl
@[simp] theorem State.setDet_PQ (s : State) (b : Bit) : (s.setDet b).PQ = s.PQ := rfl
@[simp] theorem State.setDet_fault (s : State) (b : Bit) : (s.setDet b).fault = s.fault := rfl
@[simp] theorem State.setDet_sig (s : State) (b : Bit) : (s.setDet b).sig = { s.sig with det := b } := rfl
@[simp] theorem State.setDet_pwmOut (s : State) (b : Bit) : (s.setDet b).pwmOut = s.pwmOut := rfl
@[simp] theorem State.setDet_stim (s : State) (b : Bit) : (s.setDet b).stim = s.stim := rfl
@[simp] theorem State.setDet_ticks (s : State) (b : Bit) : (s.setDet b).ticks = s.ticks := rfl

/-! ### `State.setEv` -/

@[simp] theorem State.setEv_cfg (s : State) (e : EventCode) : (s.setEv e).cfg = s.cfg := rfl
@[simp] theorem State.setEv_ARM (s : State) (e : EventCode) : (s.setEv e).ARM = s.ARM := rfl
@[simp] theorem State.setEv_TRUN (s : State) (e : EventCode) : (s.setEv e).TRUN = s.TRUN := rfl
@[simp] theorem State.setEv_TCNT (s : State) (e : EventCode) : (s.setEv e).TCNT = s.TCNT := rfl
@[simp] theorem State.setEv_PIN_Q (s : State) (e : EventCode) : (s.setEv e).PIN_Q = s.PIN_Q := rfl
@[simp] theorem State.setEv_EIFG (s : State) (e : EventCode) : (s.setEv e).EIFG = s.EIFG := rfl
@[simp] theorem State.setEv_TIFG (s : State) (e : EventCode) : (s.setEv e).TIFG = s.TIFG := rfl
@[simp] theorem State.setEv_EVT (s : State) (e : EventCode) : (s.setEv e).EVT = s.EVT := rfl
@[simp] theorem State.setEv_DUTY (s : State) (e : EventCode) : (s.setEv e).DUTY = s.DUTY := rfl
@[simp] theorem State.setEv_OEN (s : State) (e : EventCode) : (s.setEv e).OEN = s.OEN := rfl
@[simp] theorem State.setEv_PLAT (s : State) (e : EventCode) : (s.setEv e).PLAT = s.PLAT := rfl
@[simp] theorem State.setEv_IND (s : State) (e : EventCode) : (s.setEv e).IND = s.IND := rfl
@[simp] theorem State.setEv_TOG (s : State) (e : EventCode) : (s.setEv e).TOG = s.TOG := rfl
@[simp] theorem State.setEv_PCNT (s : State) (e : EventCode) : (s.setEv e).PCNT = s.PCNT := rfl
@[simp] theorem State.setEv_PQ (s : State) (e : EventCode) : (s.setEv e).PQ = s.PQ := rfl
@[simp] theorem State.setEv_fault (s : State) (e : EventCode) : (s.setEv e).fault = s.fault := rfl
@[simp] theorem State.setEv_sig (s : State) (e : EventCode) : (s.setEv e).sig = { s.sig with ev := e } := rfl
@[simp] theorem State.setEv_pwmOut (s : State) (e : EventCode) : (s.setEv e).pwmOut = s.pwmOut := rfl
@[simp] theorem State.setEv_stim (s : State) (e : EventCode) : (s.setEv e).stim = s.stim := rfl
@[simp] theorem State.setEv_ticks (s : State) (e : EventCode) : (s.setEv e).ticks = s.ticks := rfl

/-! ### `State.setPwmOut` -/

@[simp] theorem State.setPwmOut_cfg (s : State) (b : Bit) : (s.setPwmOut b).cfg = s.cfg := rfl
@[simp] theorem State.setPwmOut_ARM (s : State) (b : Bit) : (s.setPwmOut b).ARM = s.ARM := rfl
@[simp] theorem State.setPwmOut_TRUN (s : State) (b : Bit) : (s.setPwmOut b).TRUN = s.TRUN := rfl
@[simp] theorem State.setPwmOut_TCNT (s : State) (b : Bit) : (s.setPwmOut b).TCNT = s.TCNT := rfl
@[simp] theorem State.setPwmOut_PIN_Q (s : State) (b : Bit) : (s.setPwmOut b).PIN_Q = s.PIN_Q := rfl
@[simp] theorem State.setPwmOut_EIFG (s : State) (b : Bit) : (s.setPwmOut b).EIFG = s.EIFG := rfl
@[simp] theorem State.setPwmOut_TIFG (s : State) (b : Bit) : (s.setPwmOut b).TIFG = s.TIFG := rfl
@[simp] theorem State.setPwmOut_EVT (s : State) (b : Bit) : (s.setPwmOut b).EVT = s.EVT := rfl
@[simp] theorem State.setPwmOut_DUTY (s : State) (b : Bit) : (s.setPwmOut b).DUTY = s.DUTY := rfl
@[simp] theorem State.setPwmOut_OEN (s : State) (b : Bit) : (s.setPwmOut b).OEN = s.OEN := rfl
@[simp] theorem State.setPwmOut_PLAT (s : State) (b : Bit) : (s.setPwmOut b).PLAT = s.PLAT := rfl
@[simp] theorem State.setPwmOut_IND (s : State) (b : Bit) : (s.setPwmOut b).IND = s.IND := rfl
@[simp] theorem State.setPwmOut_TOG (s : State) (b : Bit) : (s.setPwmOut b).TOG = s.TOG := rfl
@[simp] theorem State.setPwmOut_PCNT (s : State) (b : Bit) : (s.setPwmOut b).PCNT = s.PCNT := rfl
@[simp] theorem State.setPwmOut_PQ (s : State) (b : Bit) : (s.setPwmOut b).PQ = s.PQ := rfl
@[simp] theorem State.setPwmOut_fault (s : State) (b : Bit) : (s.setPwmOut b).fault = s.fault := rfl
@[simp] theorem State.setPwmOut_sig (s : State) (b : Bit) : (s.setPwmOut b).sig = s.sig := rfl
@[simp] theorem State.setPwmOut_pwmOut (s : State) (b : Bit) : (s.setPwmOut b).pwmOut = b := rfl
@[simp] theorem State.setPwmOut_stim (s : State) (b : Bit) : (s.setPwmOut b).stim = s.stim := rfl
@[simp] theorem State.setPwmOut_ticks (s : State) (b : Bit) : (s.setPwmOut b).ticks = s.ticks := rfl

/-! ### `State.latchTick` -/

@[simp] theorem State.latchTick_cfg (s : State) : (s.latchTick).cfg = s.cfg := rfl
@[simp] theorem State.latchTick_ARM (s : State) : (s.latchTick).ARM = s.ARM := rfl
@[simp] theorem State.latchTick_TRUN (s : State) : (s.latchTick).TRUN = s.TRUN := rfl
@[simp] theorem State.latchTick_TCNT (s : State) : (s.latchTick).TCNT = s.TCNT := rfl
@[simp] theorem State.latchTick_PIN_Q (s : State) : (s.latchTick).PIN_Q = s.sig.pin := rfl
@[simp] theorem State.latchTick_EIFG (s : State) : (s.latchTick).EIFG = s.EIFG := rfl
@[simp] theorem State.latchTick_TIFG (s : State) : (s.latchTick).TIFG = s.TIFG := rfl
@[simp] theorem State.latchTick_EVT (s : State) : (s.latchTick).EVT = s.sig.ev := rfl
@[simp] theorem State.latchTick_DUTY (s : State) : (s.latchTick).DUTY = s.DUTY := rfl
@[simp] theorem State.latchTick_OEN (s : State) : (s.latchTick).OEN = s.OEN := rfl
@[simp] theorem State.latchTick_PLAT (s : State) : (s.latchTick).PLAT = s.PLAT := rfl
@[simp] theorem State.latchTick_IND (s : State) : (s.latchTick).IND = s.IND := rfl
@[simp] theorem State.latchTick_TOG (s : State) : (s.latchTick).TOG = s.TOG := rfl
@[simp] theorem State.latchTick_PCNT (s : State) : (s.latchTick).PCNT = s.PCNT := rfl
@[simp] theorem State.latchTick_PQ (s : State) : (s.latchTick).PQ = s.PQ := rfl
@[simp] theorem State.latchTick_fault (s : State) : (s.latchTick).fault = s.fault := rfl
@[simp] theorem State.latchTick_sig (s : State) : (s.latchTick).sig = Signals.idle := rfl
@[simp] theorem State.latchTick_pwmOut (s : State) : (s.latchTick).pwmOut = s.pwmOut := rfl
@[simp] theorem State.latchTick_stim (s : State) : (s.latchTick).stim = s.stim := rfl
@[simp] theorem State.latchTick_ticks (s : State) : (s.latchTick).ticks = s.ticks := rfl

/-! ### `State.raise` -/

@[simp] theorem State.raise_cfg (s : State) (f : Fault) : (s.raise f).cfg = s.cfg := rfl
@[simp] theorem State.raise_ARM (s : State) (f : Fault) : (s.raise f).ARM = s.ARM := rfl
@[simp] theorem State.raise_TRUN (s : State) (f : Fault) : (s.raise f).TRUN = s.TRUN := rfl
@[simp] theorem State.raise_TCNT (s : State) (f : Fault) : (s.raise f).TCNT = s.TCNT := rfl
@[simp] theorem State.raise_PIN_Q (s : State) (f : Fault) : (s.raise f).PIN_Q = s.PIN_Q := rfl
@[simp] theorem State.raise_EIFG (s : State) (f : Fault) : (s.raise f).EIFG = s.EIFG := rfl
@[simp] theorem State.raise_TIFG (s : State) (f : Fault) : (s.raise f).TIFG = s.TIFG := rfl
@[simp] theorem State.raise_EVT (s : State) (f : Fault) : (s.raise f).EVT = s.EVT := rfl
@[simp] theorem State.raise_DUTY (s : State) (f : Fault) : (s.raise f).DUTY = s.DUTY := rfl
@[simp] theorem State.raise_OEN (s : State) (f : Fault) : (s.raise f).OEN = s.OEN := rfl
@[simp] theorem State.raise_PLAT (s : State) (f : Fault) : (s.raise f).PLAT = s.PLAT := rfl
@[simp] theorem State.raise_IND (s : State) (f : Fault) : (s.raise f).IND = s.IND := rfl
@[simp] theorem State.raise_TOG (s : State) (f : Fault) : (s.raise f).TOG = s.TOG := rfl
@[simp] theorem State.raise_PCNT (s : State) (f : Fault) : (s.raise f).PCNT = s.PCNT := rfl
@[simp] theorem State.raise_PQ (s : State) (f : Fault) : (s.raise f).PQ = s.PQ := rfl
@[simp] theorem State.raise_fault (s : State) (f : Fault) : (s.raise f).fault = some f := rfl
@[simp] theorem State.raise_sig (s : State) (f : Fault) : (s.raise f).sig = s.sig := rfl
@[simp] theorem State.raise_pwmOut (s : State) (f : Fault) : (s.raise f).pwmOut = s.pwmOut := rfl
@[simp] theorem State.raise_stim (s : State) (f : Fault) : (s.raise f).stim = s.stim := rfl
@[simp] theorem State.raise_ticks (s : State) (f : Fault) : (s.raise f).ticks = s.ticks := rfl

/-! ### `State.advance` -/

@[simp] theorem State.advance_cfg (s : State) : (s.advance).cfg = s.cfg := rfl
@[simp] theorem State.advance_ARM (s : State) : (s.advance).ARM = s.ARM := rfl
@[simp] theorem State.advance_TRUN (s : State) : (s.advance).TRUN = s.TRUN := rfl
@[simp] theorem State.advance_TCNT (s : State) : (s.advance).TCNT = s.TCNT := rfl
@[simp] theorem State.advance_PIN_Q (s : State) : (s.advance).PIN_Q = s.PIN_Q := rfl
@[simp] theorem State.advance_EIFG (s : State) : (s.advance).EIFG = s.EIFG := rfl
@[simp] theorem State.advance_TIFG (s : State) : (s.advance).TIFG = s.TIFG := rfl
@[simp] theorem State.advance_EVT (s : State) : (s.advance).EVT = s.EVT := rfl
@[simp] theorem State.advance_DUTY (s : State) : (s.advance).DUTY = s.DUTY := rfl
@[simp] theorem State.advance_OEN (s : State) : (s.advance).OEN = s.OEN := rfl
@[simp] theorem State.advance_PLAT (s : State) : (s.advance).PLAT = s.PLAT := rfl
@[simp] theorem State.advance_IND (s : State) : (s.advance).IND = s.IND := rfl
@[simp] theorem State.advance_TOG (s : State) : (s.advance).TOG = s.TOG := rfl
@[simp] theorem State.advance_PCNT (s : State) : (s.advance).PCNT = s.PCNT := rfl
@[simp] theorem State.advance_PQ (s : State) : (s.advance).PQ = s.PQ := rfl
@[simp] theorem State.advance_fault (s : State) : (s.advance).fault = s.fault := rfl
@[simp] theorem State.advance_sig (s : State) : (s.advance).sig = s.sig := rfl
@[simp] theorem State.advance_pwmOut (s : State) : (s.advance).pwmOut = s.pwmOut := rfl
@[simp] theorem State.advance_stim (s : State) : (s.advance).stim = s.stim.tail := rfl
@[simp] theorem State.advance_ticks (s : State) : (s.advance).ticks = s.ticks + 1 := rfl

/-! ### `State.present` -/

@[simp] theorem State.present_cfg (s : State) (w : StimWord) : (s.present w).cfg = s.cfg := rfl
@[simp] theorem State.present_ARM (s : State) (w : StimWord) : (s.present w).ARM = s.ARM := rfl
@[simp] theorem State.present_TRUN (s : State) (w : StimWord) : (s.present w).TRUN = s.TRUN := rfl
@[simp] theorem State.present_TCNT (s : State) (w : StimWord) : (s.present w).TCNT = s.TCNT := rfl
@[simp] theorem State.present_PIN_Q (s : State) (w : StimWord) : (s.present w).PIN_Q = s.PIN_Q := rfl
@[simp] theorem State.present_EIFG (s : State) (w : StimWord) : (s.present w).EIFG = s.EIFG := rfl
@[simp] theorem State.present_TIFG (s : State) (w : StimWord) : (s.present w).TIFG = s.TIFG := rfl
@[simp] theorem State.present_EVT (s : State) (w : StimWord) : (s.present w).EVT = s.EVT := rfl
@[simp] theorem State.present_DUTY (s : State) (w : StimWord) : (s.present w).DUTY = s.DUTY := rfl
@[simp] theorem State.present_OEN (s : State) (w : StimWord) : (s.present w).OEN = s.OEN := rfl
@[simp] theorem State.present_PLAT (s : State) (w : StimWord) : (s.present w).PLAT = s.PLAT := rfl
@[simp] theorem State.present_IND (s : State) (w : StimWord) : (s.present w).IND = s.IND := rfl
@[simp] theorem State.present_TOG (s : State) (w : StimWord) : (s.present w).TOG = s.TOG := rfl
@[simp] theorem State.present_PCNT (s : State) (w : StimWord) : (s.present w).PCNT = s.PCNT := rfl
@[simp] theorem State.present_PQ (s : State) (w : StimWord) : (s.present w).PQ = s.PQ := rfl
@[simp] theorem State.present_fault (s : State) (w : StimWord) : (s.present w).fault = s.fault := rfl
@[simp] theorem State.present_sig (s : State) (w : StimWord) : (s.present w).sig = s.sig := rfl
@[simp] theorem State.present_pwmOut (s : State) (w : StimWord) : (s.present w).pwmOut = s.pwmOut := rfl
@[simp] theorem State.present_stim (s : State) (w : StimWord) : (s.present w).stim = w :: s.stim := rfl
@[simp] theorem State.present_ticks (s : State) (w : StimWord) : (s.present w).ticks = s.ticks := rfl

end Sys2Proof.Machine
end

