-- ==== Sys2Proof/Laws/Ops.lean ====
section
/-! SUPPORT. One lemma for each shared operation, saying everything it can do: the frame of the operations, the
configuration check, the invariant check, register widths and the presentation of words. -/

namespace Sys2Proof.Machine

/-! ### The configuration check (R7) -/

theorem wellFormedConfig_iff (c : Config) :
    WellFormedConfig c ↔
      1 ≤ c.N ∧ 1 ≤ c.PERIOD ∧ 1 ≤ c.STEP ∧ c.CEILING ≤ c.PERIOD ∧ c.D0 ≤ c.PERIOD ∧ c.N ≤ 2 ^ c.TIMER_W ∧
        c.PERIOD < 2 ^ c.DUTY_W := by
  simp [WellFormedConfig, brokenCondition, conditionsInOrder, List.find?_eq_none, conditionHolds]

theorem brokenCondition_fails {c : Config} {k : ConfigCondition} (h : brokenCondition c = some k) :
    conditionHolds c k = false := by
  simpa using List.find?_some h

/-! ### The invariant check (R47) -/

theorem brokenClause_none_iff (s : State) :
    brokenClause s = none ↔
      s.TCNT ≤ s.cfg.N - 1 ∧ (s.TRUN = false → s.TCNT = 0) ∧ (s.EIFG = false ∧ s.TIFG = false) ∧
        s.EVT ≠ Event.RESERVED ∧ s.DUTY ≤ s.cfg.PERIOD ∧ s.OEN = decide (s.DUTY ≠ 0) ∧ s.PLAT = false ∧
        s.PCNT ≤ s.cfg.PERIOD := by
  simp [brokenClause, clausesInOrder, List.find?_eq_none, clauseHolds, Bool.or_eq_true, ← Bool.not_eq_true]
  grind

theorem brokenClause_fails {s : State} {k : Clause} (h : brokenClause s = some k) : clauseHolds s k = false := by
  simpa using List.find?_some h

/-! ### The frame of every operation (R7, R125) -/

theorem guarded_ready {s : State} (h : Ready s) (effect : State → State) : guarded s effect = .next (effect s) := by
  obtain ⟨hc, hf⟩ := h
  simp [guarded, hf, show brokenCondition s.cfg = none from hc]

theorem guarded_faulted {s : State} {f : Fault} (hc : WellFormedConfig s.cfg) (hf : s.fault = some f)
    (effect : State → State) : guarded s effect = .fault f := by
  simp [guarded, hf, show brokenCondition s.cfg = none from hc]

theorem guarded_illFormed {s : State} {k : ConfigCondition} (hk : brokenCondition s.cfg = some k)
    (effect : State → State) : guarded s effect = .refused (.illFormedConfig k) := by
  simp [guarded, hk]

/-- Everything the frame can do when it answers a next state. -/
theorem guarded_next {s t : State} {effect : State → State} (h : guarded s effect = .next t) :
    Ready s ∧ t = effect s := by
  unfold guarded at h
  split at h
  · cases h
  · rename_i hc
    split at h
    · cases h
    · rename_i hf
      cases h
      exact ⟨⟨hc, hf⟩, rfl⟩

/-! ### Sequencing -/

@[simp] theorem andThen_next (s : State) (k : State → Host.Outcome State Fault Refusal) :
    andThen (.next s) k = k s := rfl

theorem andThen_eq_next {o : Host.Outcome State Fault Refusal} {k : State → Host.Outcome State Fault Refusal} {t : State}
    (h : andThen o k = .next t) : ∃ s, o = .next s ∧ k s = .next t := by
  cases o with
  | next s => exact ⟨s, rfl, h⟩
  | fault f => cases h
  | refused r => cases h

/-! ### Register widths -/

theorem fitWidth_lt (w v : Nat) : fitWidth w v < 2 ^ w := Nat.mod_lt _ (Nat.two_pow_pos w)

theorem fitWidth_of_lt {w v : Nat} (h : v < 2 ^ w) : fitWidth w v = v := Nat.mod_eq_of_lt h

@[simp] theorem fitWidth_zero (w : Nat) : fitWidth w 0 = 0 := Nat.zero_mod _

/-! ### Presenting and taking words (R64, R139) -/

@[simp] theorem nextWord_present (s : State) (w : StimWord) : (s.present w).nextWord = w := rfl

theorem advance_present (s : State) (w : StimWord) :
    (s.present w).advance = { s with ticks := s.ticks + 1 } := rfl

theorem decodeStim_pinWord (pin : Bit) : (decodeStim (pinWord pin)).toInstr = tickInstr pin := by
  cases pin <;> rfl

/-- A tick at which the environment presents a pin level is the tick instruction, with one more tick counted. -/
theorem tickWith_pinWord (pin : Bit) (s : State) :
    tickWith (pinWord pin) s = exec (tickInstr pin) { s with ticks := s.ticks + 1 } := by
  rw [← decodeStim_pinWord]
  rfl

theorem exec_tickInstr (pin : Bit) (s : State) : exec (tickInstr pin) s = guarded s (nonResetTick pin) := by
  cases pin <;> rfl

theorem exec_rst (pin : Bit) (s : State) : exec (.rst pin) s = guarded s rstEffect := rfl

end Sys2Proof.Machine
end

