-- ==== Sys2Proof/Laws/Phases.lean ====
section
/-! SUPPORT. What each phase of a tick does, once for all operations its decode vector can select. -/

namespace Sys2Proof.Machine

/-! ### Decode vectors -/

/-- R66: the verdict of the edge detector, from the three bits of `EDSEL`. -/
theorem decodeEdsel_edsel (s : State) :
    decodeEdsel (edsel s) =
      if s.sig.pin = s.PIN_Q then (if s.sig.pin then .steady1 s.ARM else .steady0 s.ARM)
      else if s.sig.pin = s.ARM then (if s.ARM then .rise else .fall)
      else (if s.ARM then .ignoreFall else .ignoreRise) := by
  simp only [edsel]
  cases s.ARM <;> cases s.PIN_Q <;> cases s.sig.pin <;> rfl

/-- R67: the debounce operation, from the four bits of `DBSEL`. -/
theorem decodeDbsel_dbsel (s : State) :
    decodeDbsel (dbsel s) =
      if s.sig.det then .edge s.TRUN (last s) (matching s)
      else if s.TRUN then
        (if last s then (if matching s then .expireConfirm else .expireReject) else .count (matching s))
      else .idle (last s) (matching s) := by
  simp only [dbsel]
  cases s.sig.det <;> cases s.TRUN <;> cases last s <;> cases matching s <;> rfl

/-- R68: the duty operation, from the event code and `fits`. -/
theorem decodeDmsel_dmsel (s : State) :
    decodeDmsel (dmsel s) =
      if s.sig.ev = Event.NONE then .hold (fits s)
      else if s.sig.ev = Event.PRESS then (if fits s then .pressStep else .pressWrap)
      else if s.sig.ev = Event.RELEASE then .release (fits s)
      else .reserved (fits s) := by
  simp only [dmsel]
  generalize fits s = b
  generalize s.sig.ev = e
  revert e b
  decide

theorem decodePcsel_pcsel (s : State) : decodePcsel (pcsel s) = if top s then .wrap else .inc := by
  simp only [pcsel]
  cases top s <;> rfl

theorem decodePwsel_pwsel (s : State) :
    decodePwsel (pwsel s) = if clrSig s then .clear (setSig s) else if setSig s then .set else .hold := by
  simp only [pwsel]
  cases clrSig s <;> cases setSig s <;> rfl

theorem decodeOutsel_outsel (s : State) : decodeOutsel (outsel s) = if s.OEN then .pwm else .latch := by
  simp only [outsel]
  cases s.OEN <;> rfl

/-! ### Phases -/

theorem edgePhase_eq (s : State) :
    edgePhase s = if s.sig.pin ≠ s.PIN_Q ∧ s.sig.pin = s.ARM then detectEdge s else noEdge s := by
  rw [edgePhase, decodeEdsel_edsel]
  cases s.ARM <;> cases s.PIN_Q <;> cases s.sig.pin <;> rfl

theorem detects_eq (s : State) (pin : Bit) : detects s pin = decide (pin ≠ s.PIN_Q ∧ pin = s.ARM) := by
  rw [detects, edgePhase_eq]
  change (if pin ≠ s.PIN_Q ∧ pin = s.ARM then _ else _ : State).sig.det = _
  split
  · rename_i h
    rw [decide_eq_true h]
    rfl
  · rename_i h
    rw [decide_eq_false h]
    rfl

theorem debouncePhase_eq (s : State) :
    debouncePhase s =
      if s.sig.det then dbEdgeEffect s
      else if s.TRUN then
        (if s.cfg.N ≤ s.TCNT + 1 then
          (if s.sig.pin = s.ARM then dbExpireConfirmEffect s else dbExpireRejectEffect s)
        else dbCountEffect s)
      else dbIdleEffect s := by
  rw [debouncePhase, decodeDbsel_dbsel]
  by_cases h1 : s.sig.det <;> by_cases h2 : s.TRUN <;> by_cases h3 : s.cfg.N ≤ s.TCNT + 1 <;>
    by_cases h4 : s.sig.pin = s.ARM <;> simp [h1, h2, h3, h4, last, matching, dbEffect]

theorem dutyPhase_eq {s : State} (h : s.sig.ev ≠ Event.RESERVED) :
    dutyPhase s =
      if s.sig.ev = Event.PRESS then
        (if s.DUTY + s.cfg.STEP ≤ s.cfg.CEILING then dmPressStepEffect s else dmPressWrapEffect s)
      else if s.sig.ev = Event.RELEASE then dmReleaseEffect s
      else s := by
  have hcases : ∀ e : EventCode, e ≠ Event.RESERVED → e = Event.NONE ∨ e = Event.PRESS ∨ e = Event.RELEASE := by decide
  rw [dutyPhase, decodeDmsel_dmsel]
  rcases hcases _ h with he | he | he
  · simp [he, dmEffect, dmHoldEffect, Event.NONE, Event.PRESS, Event.RELEASE]
  · by_cases hf : s.DUTY + s.cfg.STEP ≤ s.cfg.CEILING <;>
      simp [he, hf, fits, dmEffect, Event.NONE, Event.PRESS]
  · simp [he, dmEffect, Event.NONE, Event.PRESS, Event.RELEASE]

theorem counterPhase_eq (s : State) :
    counterPhase s = if s.cfg.PERIOD ≤ s.PCNT then pcWrapEffect s else pcIncEffect s := by
  rw [counterPhase, decodePcsel_pcsel]
  by_cases h : s.cfg.PERIOD ≤ s.PCNT <;> simp [h, top, pcEffect]

theorem latchPhase_eq (s : State) :
    latchPhase s = if s.PCNT = s.DUTY then pwClearEffect s else if s.PCNT = 0 then pwSetEffect s else s := by
  rw [latchPhase, decodePwsel_pwsel]
  simp only [clrSig, setSig, decide_eq_true_eq]
  split
  · rfl
  · split <;> rfl

theorem outputPhase_eq (s : State) : outputPhase s = s.setPwmOut (portsOf s).pwm_out := by
  rw [outputPhase, decodeOutsel_outsel]
  by_cases h : s.OEN <;> simp [h, outEffect, outPwmEffect, outLatchEffect, portsOf]

/-- Every operation of the debounce phase gives one of the three event codes in use (R90, R96). -/
theorem classify_ne_reserved (c : Config) (a : Bit) : classify c a ≠ Event.RESERVED := by
  unfold classify
  split
  · decide
  · split <;> decide

theorem debouncePhase_ev_ne_reserved (s : State) : (debouncePhase s).sig.ev ≠ Event.RESERVED := by
  have hnone : Event.NONE ≠ Event.RESERVED := by decide
  rw [debouncePhase_eq]
  split
  · exact hnone
  · split
    · split
      · split
        · exact classify_ne_reserved _ _
        · exact hnone
      · exact hnone
    · exact hnone

end Sys2Proof.Machine
end

