-- ==== Sys2Proof/Laws/Effects.lean ====
section
/-! SUPPORT. What no operation writes: the configuration, the environment's fields and (but for DM_RESERVED) the fault.
With it the tick of a fault-free state is one equation, and the debounce operation of a tick is known from the
start-of-tick registers. -/

namespace Sys2Proof.Machine

/-! ### Every instruction runs in the frame -/

/-- Every instruction is one effect in the frame of R7 and R125. -/
theorem exec_guarded (i : Instr) : ∃ effect : State → State, ∀ s, exec i s = guarded s effect := by
  cases i <;> exact ⟨_, fun _ => rfl⟩

/-- A stimulus word is a reset or a tick (R64). -/
theorem decodeStim_cases (w : StimWord) :
    (∃ pin, (decodeStim w).toInstr = .rst pin) ∨ ∃ pin, (decodeStim w).toInstr = tickInstr pin := by
  revert w
  decide

/-! ### Configuration and fault -/

theorem edEffect_cfg (op : EdOp) (s : State) : (edEffect op s).cfg = s.cfg := by cases op <;> rfl
theorem dbEffect_cfg (op : DbOp) (s : State) : (dbEffect op s).cfg = s.cfg := by cases op <;> rfl
theorem dmEffect_cfg (op : DmOp) (s : State) : (dmEffect op s).cfg = s.cfg := by cases op <;> rfl
theorem pcEffect_cfg (op : PcOp) (s : State) : (pcEffect op s).cfg = s.cfg := by cases op <;> rfl
theorem pwEffect_cfg (op : PwOp) (s : State) : (pwEffect op s).cfg = s.cfg := by cases op <;> rfl
theorem outEffect_cfg (op : OutOp) (s : State) : (outEffect op s).cfg = s.cfg := by cases op <;> rfl

theorem edEffect_fault (op : EdOp) (s : State) : (edEffect op s).fault = s.fault := by cases op <;> rfl
theorem dbEffect_fault (op : DbOp) (s : State) : (dbEffect op s).fault = s.fault := by cases op <;> rfl
theorem pcEffect_fault (op : PcOp) (s : State) : (pcEffect op s).fault = s.fault := by cases op <;> rfl
theorem pwEffect_fault (op : PwOp) (s : State) : (pwEffect op s).fault = s.fault := by cases op <;> rfl
theorem outEffect_fault (op : OutOp) (s : State) : (outEffect op s).fault = s.fault := by cases op <;> rfl

theorem dutyPhase_fault {s : State} (h : s.sig.ev ≠ Event.RESERVED) : (dutyPhase s).fault = s.fault := by
  rw [dutyPhase_eq h]
  repeat' split
  all_goals rfl

/-- The first three phases of a tick raise nothing (R96: the event code is never the reserved one). -/
theorem firstPhases_fault (s : State) (pin : Bit) :
    (dutyPhase (debouncePhase (edgePhase (s.setPin pin)))).fault = s.fault := by
  rw [dutyPhase_fault (debouncePhase_ev_ne_reserved _), debouncePhase, dbEffect_fault, edgePhase, edEffect_fault]
  rfl

/-- The tick of a fault-free state, as one equation. -/
theorem tick_of_no_fault {s : State} (pin : Bit) (h : s.fault = none) :
    tick pin s =
      outputPhase
        (latchPhase (counterPhase (dutyPhase (debouncePhase (edgePhase (s.setPin pin)))))).latchTick := by
  have h3 := (firstPhases_fault s pin).trans h
  simp only [tick, h3]

/-! ### The debounce operation of a tick -/

/-- R67 over the start-of-tick registers: which debounce operation a tick that samples `pin` runs. -/
theorem debounceOp_eq (s : State) (pin : Bit) :
    debounceOp s pin =
      if detects s pin then .edge s.TRUN (last s) (decide (pin = s.ARM))
      else if s.TRUN then
        (if s.cfg.N ≤ s.TCNT + 1 then (if pin = s.ARM then .expireConfirm else .expireReject)
        else .count (decide (pin = s.ARM)))
      else .idle (last s) (decide (pin = s.ARM)) := by
  have hdet : (edgePhase (s.setPin pin)).sig.det = detects s pin := rfl
  have htrun : (edgePhase (s.setPin pin)).TRUN = s.TRUN := by rw [edgePhase_eq]; split <;> rfl
  have hlast : last (edgePhase (s.setPin pin)) = last s := by rw [edgePhase_eq]; split <;> rfl
  have hmatch : matching (edgePhase (s.setPin pin)) = decide (pin = s.ARM) := by
    rw [edgePhase_eq]
    split <;> (simp [matching, noEdge, detectEdge]; cases pin <;> cases s.ARM <;> rfl)
  rw [debounceOp, decodeDbsel_dbsel, hdet, htrun, hlast, hmatch]
  simp [last]

/-- A tick either finds a broken clause and raises it, or starts from a state that meets them all. -/
theorem exec_tickInstr_next {s t : State} {pin : Bit} (h : exec (tickInstr pin) s = .next t) :
    Ready s ∧ ((∃ k, brokenClause s = some k ∧ t = s.raise (.invariantBroken k)) ∨
      (brokenClause s = none ∧ t = tick pin s)) := by
  rw [exec_tickInstr] at h
  obtain ⟨hr, rfl⟩ := guarded_next h
  refine ⟨hr, ?_⟩
  cases hb : brokenClause s with
  | some k => exact .inl ⟨k, rfl, by rw [nonResetTick, hb]⟩
  | none => exact .inr ⟨rfl, by rw [nonResetTick, hb]⟩

/-! ### The environment's fields -/

/-- The same block with other pending words and another tick number. -/
def withEnvironment (q : List StimWord) (n : Nat) (s : State) : State := { s with stim := q, ticks := n }

/-- An outcome whose state, if it has one, is seen in another environment. -/
def outcomeWithEnvironment (q : List StimWord) (n : Nat) :
    Host.Outcome State Fault Refusal → Host.Outcome State Fault Refusal
  | .next s => .next (withEnvironment q n s)
  | .fault f => .fault f
  | .refused r => .refused r

section Environment

variable (q : List StimWord) (n : Nat)

theorem edgePhase_withEnvironment (s : State) :
    edgePhase (withEnvironment q n s) = withEnvironment q n (edgePhase s) := by
  change edEffect (decodeEdsel (edsel s)) _ = withEnvironment q n (edEffect (decodeEdsel (edsel s)) s)
  cases decodeEdsel (edsel s) <;> rfl

theorem debouncePhase_withEnvironment (s : State) :
    debouncePhase (withEnvironment q n s) = withEnvironment q n (debouncePhase s) := by
  change dbEffect (decodeDbsel (dbsel s)) _ = withEnvironment q n (dbEffect (decodeDbsel (dbsel s)) s)
  cases decodeDbsel (dbsel s) <;> rfl

theorem dutyPhase_withEnvironment (s : State) :
    dutyPhase (withEnvironment q n s) = withEnvironment q n (dutyPhase s) := by
  change dmEffect (decodeDmsel (dmsel s)) _ = withEnvironment q n (dmEffect (decodeDmsel (dmsel s)) s)
  cases decodeDmsel (dmsel s) <;> rfl

theorem counterPhase_withEnvironment (s : State) :
    counterPhase (withEnvironment q n s) = withEnvironment q n (counterPhase s) := by
  change pcEffect (decodePcsel (pcsel s)) _ = withEnvironment q n (pcEffect (decodePcsel (pcsel s)) s)
  cases decodePcsel (pcsel s) <;> rfl

theorem latchPhase_withEnvironment (s : State) :
    latchPhase (withEnvironment q n s) = withEnvironment q n (latchPhase s) := by
  change pwEffect (decodePwsel (pwsel s)) _ = withEnvironment q n (pwEffect (decodePwsel (pwsel s)) s)
  cases decodePwsel (pwsel s) <;> rfl

theorem outputPhase_withEnvironment (s : State) :
    outputPhase (withEnvironment q n s) = withEnvironment q n (outputPhase s) := by
  change outEffect (decodeOutsel (outsel s)) _ = withEnvironment q n (outEffect (decodeOutsel (outsel s)) s)
  cases decodeOutsel (outsel s) <;> rfl

theorem tick_withEnvironment (pin : Bit) (s : State) :
    tick pin (withEnvironment q n s) = withEnvironment q n (tick pin s) := by
  have hpin : (withEnvironment q n s).setPin pin = withEnvironment q n (s.setPin pin) := rfl
  simp only [tick, hpin, edgePhase_withEnvironment, debouncePhase_withEnvironment, dutyPhase_withEnvironment]
  generalize dutyPhase (debouncePhase (edgePhase (s.setPin pin))) = u
  rw [show (withEnvironment q n u).fault = u.fault from rfl]
  cases u.fault with
  | some f => rfl
  | none =>
    have hlatch : ∀ v : State, (withEnvironment q n v).latchTick = withEnvironment q n v.latchTick := fun _ => rfl
    simp only [counterPhase_withEnvironment, latchPhase_withEnvironment, hlatch, outputPhase_withEnvironment]

theorem nonResetTick_withEnvironment (pin : Bit) (s : State) :
    nonResetTick pin (withEnvironment q n s) = withEnvironment q n (nonResetTick pin s) := by
  unfold nonResetTick
  rw [show brokenClause (withEnvironment q n s) = brokenClause s from rfl]
  cases brokenClause s with
  | some k => rfl
  | none => exact tick_withEnvironment q n pin s

theorem rstEffect_withEnvironment (s : State) :
    rstEffect (withEnvironment q n s) = withEnvironment q n (rstEffect s) := by
  have h : resetRegisters (withEnvironment q n s) = withEnvironment q n (resetRegisters s) := rfl
  simp only [rstEffect, h, outputPhase_withEnvironment]

theorem guarded_withEnvironment {effect : State → State} {s : State}
    (h : effect (withEnvironment q n s) = withEnvironment q n (effect s)) :
    guarded (withEnvironment q n s) effect = outcomeWithEnvironment q n (guarded s effect) := by
  unfold guarded
  rw [show brokenCondition (withEnvironment q n s).cfg = brokenCondition s.cfg from rfl,
    show (withEnvironment q n s).fault = s.fault from rfl]
  cases brokenCondition s.cfg with
  | some k => rfl
  | none =>
    cases s.fault with
    | some f => rfl
    | none => simp only [outcomeWithEnvironment, h]

/-- What a stimulus operation does to the block depends on no pending word and on no tick number. -/
theorem exec_stimOp_withEnvironment (op : StimOp) (s : State) :
    exec op.toInstr (withEnvironment q n s) = outcomeWithEnvironment q n (exec op.toInstr s) := by
  cases op with
  | rst pin => exact guarded_withEnvironment q n (rstEffect_withEnvironment q n s)
  | t0 => exact guarded_withEnvironment q n (nonResetTick_withEnvironment q n _ s)
  | t1 => exact guarded_withEnvironment q n (nonResetTick_withEnvironment q n _ s)

end Environment

/-! ### Runs, tick by tick -/

theorem pinTable_cons {s t : State} {pin : Bit} (pins : List Bit) (h : tickWith (pinWord pin) s = .next t) :
    pinTable (pin :: pins) s = t :: pinTable pins t := by
  simp only [pinTable, List.map_cons, runTable, h]

theorem runPins_cons {s t : State} {pin : Bit} (pins : List Bit) (h : tickWith (pinWord pin) s = .next t) :
    runPins (pin :: pins) s = runPins pins t := by
  simp only [runPins, List.map_cons, runWords, h, andThen_next]

theorem edgeAges_cons {s t : State} {pin : Bit} (age : Nat) (pins : List Bit)
    (h : tickWith (pinWord pin) s = .next t) :
    edgeAges age (pin :: pins) s =
      (if detects s pin then 0 else age + 1) :: edgeAges (if detects s pin then 0 else age + 1) pins t := by
  simp only [edgeAges, h]

theorem runPins_append (ps qs : List Bit) (s : State) :
    runPins (ps ++ qs) s = andThen (runPins ps s) (runPins qs) := by
  induction ps generalizing s with
  | nil => rfl
  | cons p ps ih =>
    simp only [runPins, List.cons_append, List.map_cons, runWords] at ih ⊢
    cases tickWith (pinWord p) s with
    | next t => simpa using ih t
    | fault f => rfl
    | refused r => rfl

theorem eventsOf_cons (t : State) (l : List State) :
    eventsOf (t :: l) = if t.EVT = Event.NONE then eventsOf l else t.EVT :: eventsOf l := by
  simp only [eventsOf, List.map_cons, List.filter_cons]
  by_cases h : t.EVT = Event.NONE <;> simp [h]

end Sys2Proof.Machine
end

