-- ==== Sys2Proof/Laws/PerInstr.lean ====
section
/-! SUPPORT. Statements for all instructions, one lemma per constructor. Family TableRow: each instruction's word is a
word of its format and matches its own row of the opcode table (R82). -/

namespace Sys2Proof.Laws.TableRow

/-- The word of the instruction fits its format and matches its own row of the table by `match` and `mask`. -/
def Statement (i : Instr) : Prop :=
  (encode i).wf = true ∧ ∃ row ∈ opcodeTable, row.mnemonic = i.mnemonic ∧ row.selects (encode i) = true

theorem rst (pin : Bit) : Statement (.rst pin) :=
  ⟨by revert pin; decide, ⟨"RST", .STIM, 2, 2⟩, by decide, rfl, by revert pin; decide⟩

theorem t0 : Statement .t0 :=
  ⟨by decide, ⟨"T0", .STIM, 3, 0⟩, by decide, rfl, by decide⟩

theorem t1 : Statement .t1 :=
  ⟨by decide, ⟨"T1", .STIM, 3, 1⟩, by decide, rfl, by decide⟩

theorem edRise : Statement .edRise :=
  ⟨by decide, ⟨"ED_RISE", .EDSEL, 7, 5⟩, by decide, rfl, by decide⟩

theorem edFall : Statement .edFall :=
  ⟨by decide, ⟨"ED_FALL", .EDSEL, 7, 2⟩, by decide, rfl, by decide⟩

theorem edSteady0 (arm : Bit) : Statement (.edSteady0 arm) :=
  ⟨by revert arm; decide, ⟨"ED_STEADY0", .EDSEL, 3, 0⟩, by decide, rfl, by revert arm; decide⟩

theorem edSteady1 (arm : Bit) : Statement (.edSteady1 arm) :=
  ⟨by revert arm; decide, ⟨"ED_STEADY1", .EDSEL, 3, 3⟩, by decide, rfl, by revert arm; decide⟩

theorem edIgnoreRise : Statement .edIgnoreRise :=
  ⟨by decide, ⟨"ED_IGNORE_RISE", .EDSEL, 7, 1⟩, by decide, rfl, by decide⟩

theorem edIgnoreFall : Statement .edIgnoreFall :=
  ⟨by decide, ⟨"ED_IGNORE_FALL", .EDSEL, 7, 6⟩, by decide, rfl, by decide⟩

theorem dbEdge (trun last matching : Bit) : Statement (.dbEdge trun last matching) :=
  ⟨by revert trun last matching; decide, ⟨"DB_EDGE", .DBSEL, 8, 8⟩, by decide, rfl, by revert trun last matching; decide⟩

theorem dbCount (matching : Bit) : Statement (.dbCount matching) :=
  ⟨by revert matching; decide, ⟨"DB_COUNT", .DBSEL, 14, 4⟩, by decide, rfl, by revert matching; decide⟩

theorem dbExpireConfirm : Statement .dbExpireConfirm :=
  ⟨by decide, ⟨"DB_EXPIRE_CONFIRM", .DBSEL, 15, 7⟩, by decide, rfl, by decide⟩

theorem dbExpireReject : Statement .dbExpireReject :=
  ⟨by decide, ⟨"DB_EXPIRE_REJECT", .DBSEL, 15, 6⟩, by decide, rfl, by decide⟩

theorem dbIdle (last matching : Bit) : Statement (.dbIdle last matching) :=
  ⟨by revert last matching; decide, ⟨"DB_IDLE", .DBSEL, 12, 0⟩, by decide, rfl, by revert last matching; decide⟩

theorem dmHold (fits : Bit) : Statement (.dmHold fits) :=
  ⟨by revert fits; decide, ⟨"DM_HOLD", .DMSEL, 6, 0⟩, by decide, rfl, by revert fits; decide⟩

theorem dmPressStep : Statement .dmPressStep :=
  ⟨by decide, ⟨"DM_PRESS_STEP", .DMSEL, 7, 3⟩, by decide, rfl, by decide⟩

theorem dmPressWrap : Statement .dmPressWrap :=
  ⟨by decide, ⟨"DM_PRESS_WRAP", .DMSEL, 7, 2⟩, by decide, rfl, by decide⟩

theorem dmRelease (fits : Bit) : Statement (.dmRelease fits) :=
  ⟨by revert fits; decide, ⟨"DM_RELEASE", .DMSEL, 6, 4⟩, by decide, rfl, by revert fits; decide⟩

theorem dmReserved (fits : Bit) : Statement (.dmReserved fits) :=
  ⟨by revert fits; decide, ⟨"DM_RESERVED", .DMSEL, 6, 6⟩, by decide, rfl, by revert fits; decide⟩

theorem pcInc : Statement .pcInc :=
  ⟨by decide, ⟨"PC_INC", .PCSEL, 1, 0⟩, by decide, rfl, by decide⟩

theorem pcWrap : Statement .pcWrap :=
  ⟨by decide, ⟨"PC_WRAP", .PCSEL, 1, 1⟩, by decide, rfl, by decide⟩

theorem pwClear (setBit : Bit) : Statement (.pwClear setBit) :=
  ⟨by revert setBit; decide, ⟨"PW_CLEAR", .PWSEL, 2, 2⟩, by decide, rfl, by revert setBit; decide⟩

theorem pwSet : Statement .pwSet :=
  ⟨by decide, ⟨"PW_SET", .PWSEL, 3, 1⟩, by decide, rfl, by decide⟩

theorem pwHold : Statement .pwHold :=
  ⟨by decide, ⟨"PW_HOLD", .PWSEL, 3, 0⟩, by decide, rfl, by decide⟩

theorem outPwm : Statement .outPwm :=
  ⟨by decide, ⟨"OUT_PWM", .OUTSEL, 1, 1⟩, by decide, rfl, by decide⟩

theorem outLatch : Statement .outLatch :=
  ⟨by decide, ⟨"OUT_LATCH", .OUTSEL, 1, 0⟩, by decide, rfl, by decide⟩

end Sys2Proof.Laws.TableRow
end

