-- ==== Sys2Proof/Tests/Slice0.lean ====
section
/-! SUPPORT. The model's own tests. Expected results come from 95_test_vectors.md (its table and row are named) or from
the rules named; then, for each statement with hypotheses, a witness that meets them. -/

namespace Sys2Proof.Tests

open Sys2Proof.Machine

/-! ### Helpers -/

/-- The outcome is a next state with the property. -/
def nextIs (o : Host.Outcome State Fault Refusal) (p : State → Bool) : Bool :=
  match o with
  | .next s => p s
  | .fault _ => false
  | .refused _ => false

def faultIs (o : Host.Outcome State Fault Refusal) (f : Fault) : Bool :=
  match o with
  | .next _ => false
  | .fault g => decide (g = f)
  | .refused _ => false

def refusalIs (o : Host.Outcome State Fault Refusal) (r : Refusal) : Bool :=
  match o with
  | .next _ => false
  | .fault _ => false
  | .refused q => decide (q = r)

def readsAs (r : RawWord) (i : Instr) : Bool :=
  match decode r with
  | .ok j => decide (j = i)
  | .error _ => false

/-- The debounce part of a state: `{ARM, TRUN, TCNT, PIN_Q}` over the reset state (95_test_vectors.md 2.3). -/
def db (arm trun : Bit) (tcnt : Nat) (pinQ : Bit) : State :=
  { State.reset with ARM := arm, TRUN := trun, TCNT := tcnt, PIN_Q := pinQ }

/-- The registers 95_test_vectors.md 2.3 shows after a tick. -/
def dbAfter (arm trun : Bit) (tcnt : Nat) (ev : EventCode) (s : State) : Bool :=
  decide (s.ARM = arm ∧ s.TRUN = trun ∧ s.TCNT = tcnt ∧ s.EVT = ev)

/-- The duty part of a state over the reset state (95_test_vectors.md 2.4). -/
def dm (duty : Nat) (ind tog : Bit) : State :=
  { State.reset with DUTY := duty, OEN := decide (duty ≠ 0), IND := ind, TOG := tog }

def dmAfter (duty : Nat) (oen ind tog : Bit) (s : State) : Bool :=
  decide (s.DUTY = duty ∧ s.OEN = oen ∧ s.IND = ind ∧ s.TOG = tog)

/-- A block with `PERIOD = 4` (95_test_vectors.md 2.5). -/
def pw (pcnt duty : Nat) (pq : Bit) : State :=
  { State.reset with
    cfg := { Config.reference with PERIOD := 4, STEP := 4, CEILING := 4, D0 := 2 }
    PCNT := pcnt, DUTY := duty, OEN := decide (duty ≠ 0), PQ := pq }

/-! ### Well-formedness: one ill-formed term for each check -/

theorem test_wf_stim_three_bits : RawWord.wf ⟨.STIM, 0b100⟩ = false := by decide
theorem test_wf_dbsel_five_bits : RawWord.wf ⟨.DBSEL, 0b10000⟩ = false := by decide
theorem test_wf_zero_count : (Stmt.t0 0).wf = false ∧ (Stmt.t1 0).wf = false := by decide
theorem test_wf_zero_count_pseudo : (Stmt.press 0).wf = false ∧ (Stmt.rel 0).wf = false := by decide

/-- 95_test_vectors.md 2.8, rows 1 to 5, and the two conditions of R7 they leave. -/
theorem test_config_conditions :
    brokenCondition { Config.reference with CEILING := 1000 } = some .ceilingAtMostPeriod ∧
    brokenCondition { Config.reference with STEP := 0 } = some .stepAtLeastOne ∧
    brokenCondition { Config.reference with N := 0 } = some .nAtLeastOne ∧
    brokenCondition { Config.reference with N := 5 } = some .timerWidthHoldsN ∧
    brokenCondition { Config.reference with PERIOD := 1024 } = some .dutyWidthHoldsPeriod ∧
    brokenCondition { Config.reference with PERIOD := 0 } = some .periodAtLeastOne ∧
    brokenCondition { Config.reference with D0 := 1000 } = some .d0AtMostPeriod := by decide

theorem test_ill_formed_refused :
    refusalIs (exec .t1 { State.reset with cfg := { Config.reference with CEILING := 1000 } })
      (.illFormedConfig .ceilingAtMostPeriod) = true := by decide

/-! ### Decoding: words written out from the patterns of R64, R66 to R69, R72, R73 -/

theorem test_decode_stim :
    readsAs ⟨.STIM, 0b10⟩ (.rst false) ∧ readsAs ⟨.STIM, 0b11⟩ (.rst true) ∧ readsAs ⟨.STIM, 0b00⟩ .t0 ∧
    readsAs ⟨.STIM, 0b01⟩ .t1 := by decide

/-- 95_test_vectors.md 2.2. -/
theorem test_decode_edsel :
    readsAs ⟨.EDSEL, 0b000⟩ (.edSteady0 false) ∧ readsAs ⟨.EDSEL, 0b001⟩ .edIgnoreRise ∧
    readsAs ⟨.EDSEL, 0b010⟩ .edFall ∧ readsAs ⟨.EDSEL, 0b011⟩ (.edSteady1 false) ∧
    readsAs ⟨.EDSEL, 0b100⟩ (.edSteady0 true) ∧ readsAs ⟨.EDSEL, 0b101⟩ .edRise ∧
    readsAs ⟨.EDSEL, 0b110⟩ .edIgnoreFall ∧ readsAs ⟨.EDSEL, 0b111⟩ (.edSteady1 true) := by decide

/-- 95_test_vectors.md 2.3. -/
theorem test_decode_dbsel :
    readsAs ⟨.DBSEL, 0b0000⟩ (.dbIdle false false) ∧ readsAs ⟨.DBSEL, 0b1001⟩ (.dbEdge false false true) ∧
    readsAs ⟨.DBSEL, 0b1111⟩ (.dbEdge true true true) ∧ readsAs ⟨.DBSEL, 0b0101⟩ (.dbCount true) ∧
    readsAs ⟨.DBSEL, 0b0100⟩ (.dbCount false) ∧ readsAs ⟨.DBSEL, 0b0111⟩ .dbExpireConfirm ∧
    readsAs ⟨.DBSEL, 0b0110⟩ .dbExpireReject ∧ readsAs ⟨.DBSEL, 0b0010⟩ (.dbIdle true false) := by decide

/-- 95_test_vectors.md 2.4. -/
theorem test_decode_dmsel :
    readsAs ⟨.DMSEL, 0b001⟩ (.dmHold true) ∧ readsAs ⟨.DMSEL, 0b011⟩ .dmPressStep ∧
    readsAs ⟨.DMSEL, 0b010⟩ .dmPressWrap ∧ readsAs ⟨.DMSEL, 0b100⟩ (.dmRelease false) ∧
    readsAs ⟨.DMSEL, 0b110⟩ (.dmReserved false) ∧ readsAs ⟨.DMSEL, 0b111⟩ (.dmReserved true) := by decide

/-- 95_test_vectors.md 2.5 and 2.6. -/
theorem test_decode_pwm :
    readsAs ⟨.PCSEL, 0b0⟩ .pcInc ∧ readsAs ⟨.PCSEL, 0b1⟩ .pcWrap ∧ readsAs ⟨.PWSEL, 0b10⟩ (.pwClear false) ∧
    readsAs ⟨.PWSEL, 0b11⟩ (.pwClear true) ∧ readsAs ⟨.PWSEL, 0b01⟩ .pwSet ∧ readsAs ⟨.PWSEL, 0b00⟩ .pwHold ∧
    readsAs ⟨.OUTSEL, 0b1⟩ .outPwm ∧ readsAs ⟨.OUTSEL, 0b0⟩ .outLatch := by decide

theorem test_host_numbers :
    decodeTableWord 8 1 = some .t1 ∧ decodeTableWord 8 2 = some (.rst false) ∧ decodeTableWord 8 5 = some .edRise ∧
    decodeTableWord 8 8 = some (.dbEdge false false false) ∧ decodeTableWord 8 16 = none := by decide

/-! ### Stimulus operations -/

/-- 95_test_vectors.md 2.1, rows 2 and 3: the pin bit is ignored and a pending window is discarded. -/
theorem test_rst :
    nextIs (exec (.rst true) { db true true 2 false with DUTY := 0, OEN := false, IND := true, TOG := true })
      (fun s => decide (s = State.reset)) = true := by decide

/-- 95_test_vectors.md 2.1, row 4. -/
theorem test_rst_active_high :
    nextIs (exec (.rst false) { State.reset with cfg := { Config.reference with ACT := true, D0 := 0 } })
      (fun s => decide (s.ARM = true ∧ s.PIN_Q = false ∧ s.DUTY = 0 ∧ s.OEN = false ∧ s.PQ = false ∧ s.pwmOut = false)) =
      true := by decide

/-- 95_test_vectors.md 2.1, row 5. -/
theorem test_t0_after_reset :
    nextIs (exec .t0 State.reset)
      (fun s => decide (s.TRUN = true ∧ s.TCNT = 0 ∧ s.PIN_Q = false ∧ s.EVT = 0b00#2 ∧ s.PCNT = 1 ∧ s.PQ = true)) =
      true := by decide

/-- 95_test_vectors.md 2.1, row 6. -/
theorem test_t1_after_reset :
    nextIs (exec .t1 State.reset) (fun s => decide (s.TRUN = false ∧ s.PIN_Q = true ∧ s.PCNT = 1)) = true := by decide

/-! ### Edge detector (95_test_vectors.md 2.2) -/

theorem test_ed_rise :
    nextIs (exec .edRise State.reset) (fun s => decide (s.EIFG = true ∧ s.sig.det = true)) = true := by decide
theorem test_ed_fall :
    nextIs (exec .edFall State.reset) (fun s => decide (s.EIFG = true ∧ s.sig.det = true)) = true := by decide
theorem test_ed_steady :
    nextIs (exec (.edSteady0 false) { State.reset with EIFG := true, sig := ⟨false, true, 0#2⟩ })
      (fun s => decide (s.EIFG = true ∧ s.sig.det = false)) = true ∧
    nextIs (exec (.edSteady1 true) State.reset) (fun s => decide (s.EIFG = false ∧ s.sig.det = false)) = true := by decide
theorem test_ed_ignore :
    nextIs (exec .edIgnoreRise { State.reset with sig := ⟨true, true, 0#2⟩ })
      (fun s => decide (s.EIFG = false ∧ s.sig.det = false)) = true ∧
    nextIs (exec .edIgnoreFall State.reset) (fun s => decide (s.EIFG = false ∧ s.sig.det = false)) = true := by decide
theorem test_detects :
    detects (db true false 0 false) true = true ∧ detects (db false false 0 true) false = true ∧
    detects (db false false 0 false) true = false ∧ detects (db true false 0 true) false = false ∧
    detects (db true false 0 true) true = false := by decide

/-! ### Debounce operations, each by the tick of its row (95_test_vectors.md 2.3) -/

theorem test_db_row1 : nextIs (exec .t1 (db false false 0 true)) (dbAfter false false 0 0b00#2) = true := by decide
theorem test_db_row3 : nextIs (exec .t0 (db false false 0 true)) (dbAfter false true 0 0b00#2) = true := by decide
theorem test_db_row5 : nextIs (exec .t0 (db false true 2 true)) (dbAfter false true 0 0b00#2) = true := by decide
theorem test_db_row7 : nextIs (exec .t1 (db false true 1 false)) (dbAfter false true 2 0b00#2) = true := by decide
theorem test_db_row8 : nextIs (exec .t0 (db false true 2 false)) (dbAfter true false 0 0b01#2) = true := by decide
theorem test_db_row9 : nextIs (exec .t1 (db false true 2 true)) (dbAfter false false 0 0b00#2) = true := by decide
theorem test_db_row10 : nextIs (exec .t1 (db true true 2 true)) (dbAfter false false 0 0b10#2) = true := by decide
theorem test_db_row15 :
    nextIs (exec .t1 { db true true 2 true with cfg := { Config.reference with EMIT_RELEASE := false } })
      (dbAfter false false 0 0b00#2) = true := by decide

/-- R92, R89: DB_EDGE clears the pending flag. -/
theorem test_db_edge_clears_flag :
    nextIs (exec (.dbEdge true true true) { db false true 2 true with EIFG := true })
      (fun s => decide (s.EIFG = false ∧ s.TRUN = true ∧ s.TCNT = 0)) = true := by decide
/-- R95: the rejection clears the expiry flag and leaves `ARM`. -/
theorem test_db_reject_clears_flag :
    nextIs (exec .dbExpireReject { db true true 2 false with TIFG := true })
      (fun s => decide (s.TIFG = false ∧ s.ARM = true ∧ s.TRUN = false)) = true := by decide
/-- R91. -/
theorem test_db_idle :
    nextIs (exec (.dbIdle false true) { State.reset with sig := ⟨true, false, 0b01#2⟩ })
      (fun s => decide (s = { State.reset with sig := ⟨true, false, 0b00#2⟩ })) = true := by decide
/-- R93. -/
theorem test_db_count :
    nextIs (exec (.dbCount true) (db false true 1 false)) (fun s => decide (s.TCNT = 2 ∧ s.TRUN = true)) = true := by
  decide

/-! ### Duty operations (95_test_vectors.md 2.4) -/

theorem test_dm_hold :
    nextIs (exec (.dmHold true) (dm 599 true true)) (fun s => decide (s = dm 599 true true)) = true := by decide
theorem test_dm_step_row2 :
    nextIs (exec .dmPressStep (dm 499 false false)) (dmAfter 599 true true true) = true := by decide
theorem test_dm_step_row6 :
    nextIs (exec .dmPressStep (dm 0 false false)) (dmAfter 100 true true true) = true := by decide
theorem test_dm_wrap_row14 :
    nextIs (exec .dmPressWrap (dm 900 false true)) (fun s => dmAfter 0 false true false s && !s.PLAT) = true := by decide
theorem test_dm_release_row7 :
    nextIs (exec (.dmRelease false) (dm 599 true true)) (dmAfter 599 true false true) = true := by decide
/-- Rows 3 to 5: the check is less-or-equal. -/
theorem test_fits :
    fits (dm 800 false false) = true ∧ fits (dm 801 false false) = false ∧ fits (dm 899 false false) = false := by decide
/-- Row 13, R127. -/
theorem test_dm_reserved :
    nextIs (exec (.dmReserved true) State.reset)
      (fun s => decide (s.FAULT = true ∧ s = { State.reset with fault := some (.reservedEvent 0b111#3) })) = true := by
  decide

/-! ### PWM operations (95_test_vectors.md 2.5) and the output mux (2.6) -/

theorem test_pc_inc : nextIs (exec .pcInc (pw 2 2 true)) (fun s => decide (s.PCNT = 3)) = true := by decide
theorem test_pc_wrap : nextIs (exec .pcWrap (pw 4 2 true)) (fun s => decide (s.PCNT = 0)) = true := by decide
theorem test_pw_set : nextIs (exec .pwSet (pw 0 2 false)) (fun s => decide (s.PQ = true)) = true := by decide
theorem test_pw_clear : nextIs (exec (.pwClear true) (pw 0 0 true)) (fun s => decide (s.PQ = false)) = true := by decide
theorem test_pw_hold : nextIs (exec .pwHold (pw 3 2 true)) (fun s => decide (s = pw 3 2 true)) = true := by decide
/-- Rows 1 to 5, each by a whole tick. -/
theorem test_pw_rows :
    nextIs (exec .t1 (pw 2 2 true)) (fun s => decide (s.PCNT = 3 ∧ s.PQ = true)) = true ∧
    nextIs (exec .t1 (pw 1 2 true)) (fun s => decide (s.PCNT = 2 ∧ s.PQ = false)) = true ∧
    nextIs (exec .t1 (pw 4 2 false)) (fun s => decide (s.PCNT = 0 ∧ s.PQ = true)) = true ∧
    nextIs (exec .t1 (pw 4 0 true)) (fun s => decide (s.PCNT = 0 ∧ s.PQ = false)) = true ∧
    nextIs (exec .t1 (pw 3 4 true)) (fun s => decide (s.PCNT = 4 ∧ s.PQ = false)) = true := by decide
theorem test_out_pwm :
    nextIs (exec .outPwm { State.reset with PQ := false }) (fun s => decide (s.pwmOut = false)) = true := by decide
theorem test_out_latch :
    nextIs (exec .outLatch { dm 0 false false with PQ := true }) (fun s => decide (s.pwmOut = false)) = true ∧
    nextIs (exec .outLatch { dm 0 false false with PLAT := true, pwmOut := false }) (fun s => decide (s.pwmOut = true)) =
      true := by decide

/-- 95_test_vectors.md 2.7. -/
theorem test_classify :
    classify { Config.reference with ACT := true } true = 0b01#2 ∧
    classify { Config.reference with ACT := true } false = 0b10#2 ∧
    classify { Config.reference with ACT := true, EMIT_RELEASE := false } false = 0b00#2 ∧
    classify Config.reference false = 0b01#2 := by decide

/-! ### Faults (95_test_vectors.md 2.8, rows 6 to 8; row 6 with a duty that breaks R47 (e), see log 13) -/

theorem test_row6_breaks_no_clause : brokenClause { State.reset with DUTY := 950 } = none := by decide
theorem test_broken_duty :
    nextIs (exec .t1 { State.reset with DUTY := 1000 })
      (fun s => decide (s = { State.reset with DUTY := 1000, fault := some (.invariantBroken .e) })) = true := by decide
theorem test_broken_event :
    nextIs (exec .t0 { State.reset with EVT := 0b11#2 })
      (fun s => decide (s.fault = some (.invariantBroken .d) ∧ s.PCNT = 0)) = true := by decide
theorem test_rst_when_faulted :
    faultIs (exec (.rst false) { State.reset with fault := some (.reservedEvent 0b110#3) }) (.reservedEvent 0b110#3) =
      true := by decide

/-! ### Step, fetch, observation and program text -/

theorem test_step_takes_the_word :
    nextIs (step { State.reset with stim := [0b00#2, 0b01#2] })
      (fun s => decide (s.TRUN = true ∧ s.stim = [0b01#2] ∧ s.ticks = 1)) = true := by decide
theorem test_fetch_word_t0 :
    nextIs (step (State.reset.withFetchWord 8 0)) (fun s => decide (s.TRUN = true ∧ s.PIN_Q = false)) = true := by decide
theorem test_fetch_word_ed_rise :
    nextIs (step (State.reset.withFetchWord 8 5)) (fun s => decide (s.ARM = true ∧ s.TRUN = true ∧ s.PIN_Q = true)) =
      true := by decide

/-- 95_test_vectors.md 2.9, row 1. -/
theorem test_observation_reset : (observationWord State.reset).toNat = 16353412 := by decide

/-- R81: each of the flags that R47 holds at 0, and the fault flag, at its own bit. -/
theorem test_observation_rare_flags :
    (observationWord { State.reset with EIFG := true }).toNat = 16353412 + 2 ^ 3 ∧
    (observationWord { State.reset with TIFG := true }).toNat = 16353412 + 2 ^ 4 ∧
    (observationWord { State.reset with PLAT := true }).toNat = 16353412 + 2 ^ 8 ∧
    (observationWord { State.reset with fault := some (.invariantBroken .a) }).toNat = 16353412 + 2 ^ 12 := by decide

/-- 95_test_vectors.md 2.9, row 2: the end state of P1. -/
theorem test_observation_p1 :
    (observationWord { State.reset with DUTY := 599, EVT := 0b10#2, TOG := true, PCNT := 10 }).toNat = 355175620 := by
  decide

/-- R78, R79: the first lines of P9's text and a pseudo-instruction, from R78's own syntax. -/
theorem test_assemble :
    assemble Config.reference
      ['R', 'S', 'T', '\n', 'T', '0', '*', '2', ' ', ';', 'x', '\n', 'P', 'R', 'E', 'S', 'S', '\n', 'R', 'E', 'L'] =
      some [0b10#2, 0b00#2, 0b00#2, 0b00#2, 0b01#2] := by decide
theorem test_assemble_zero_count : assemble Config.reference ['T', '0', '*', '0'] = none := by decide

/-! ### Witnesses: for each statement with hypotheses, a concrete input that meets them all -/

/-- A small block: `N = 1`, so a press takes two ticks; `PERIOD = 4`. -/
def smallCfg : Config :=
  { Config.reference with N := 1, PERIOD := 4, STEP := 2, CEILING := 4, D0 := 1 }

def small : State := State.powerOn smallCfg

theorem reset_inv : Inv State.reset := ⟨by decide, by decide, by decide, by decide⟩
theorem small_inv : Inv small := ⟨by decide, by decide, by decide, by decide⟩
theorem db_inv (arm trun : Bit) (pinQ : Bit) : Inv (db arm trun 0 pinQ) := by
  constructor <;> (revert arm trun pinQ; decide)
theorem running_inv (arm pinQ : Bit) : Inv (db arm true 2 pinQ) := by
  constructor <;> (revert arm pinQ; decide)

/-- `NoDetect`, computed. -/
def noDetectB : List Bit → State → Bool
  | [], _ => true
  | pin :: pins, s => !detects s pin && nextIs (tickWith (pinWord pin) s) (noDetectB pins)

theorem noDetect_of_computed {pins : List Bit} {s : State} (h : noDetectB pins s = true) : NoDetect pins s := by
  induction pins generalizing s with
  | nil => trivial
  | cons pin pins ih =>
    simp only [noDetectB, Bool.and_eq_true, Bool.not_eq_true'] at h
    refine ⟨h.1, fun t ht => ih ?_⟩
    simpa only [ht, nextIs] using h.2

/-- `EdgeWithin`, computed. -/
def edgeWithinB (n : Nat) : Nat → List Bit → State → Bool
  | _, [], _ => true
  | age, pin :: pins, s =>
    decide ((if detects s pin then 0 else age + 1) < n) &&
      nextIs (tickWith (pinWord pin) s) (edgeWithinB n (if detects s pin then 0 else age + 1) pins)

theorem edgeWithin_of_computed {n age : Nat} {pins : List Bit} {s : State} (h : edgeWithinB n age pins s = true) :
    EdgeWithin n age pins s := by
  induction pins generalizing s age with
  | nil => trivial
  | cons pin pins ih =>
    simp only [edgeWithinB, Bool.and_eq_true, decide_eq_true_eq] at h
    refine ⟨h.1, fun t ht => ih ?_⟩
    simpa only [ht, nextIs] using h.2

theorem witness_EncodeOfDecodeIsTheWord : ∃ i, decode ⟨.DBSEL, 0b1111⟩ = .ok i := ⟨_, rfl⟩

theorem witness_OneTableRowPerValue :
    RawWord.wf ⟨.STIM, 0b11⟩ = true ∧ RawWord.wf ⟨.DBSEL, 0b1111⟩ = true ∧ RawWord.wf ⟨.OUTSEL, 0⟩ = true := by decide

theorem witness_WideValuesAreRejected : 2 ^ Format.STIM.width ≤ 4 ∧ 2 ^ Format.PCSEL.width ≤ 2 := by decide

theorem witness_StepRunsTheDecodedInstruction :
    (∃ i, { State.reset with stim := [0b11#2] }.stim = 0b11#2 :: [] ∧ decode ⟨.STIM, (0b11#2).toNat⟩ = .ok i) ∧
    ∃ i, State.reset.stim = [] ∧ decode ⟨.STIM, (Config.freeStimulus State.reset.ticks).toNat⟩ = .ok i := by
  refine ⟨⟨_, rfl, rfl⟩, ?_⟩
  generalize Config.freeStimulus State.reset.ticks = w
  have h : decode ⟨.STIM, w.toNat⟩ = .ok (decodeValue .STIM w.toNat) := by
    revert w
    decide
  exact ⟨_, rfl, h⟩

theorem witness_PlacedWordRunsNext : 0 < 4 ∧ 3 < 4 ∧ (4 ≤ 4 ∧ 4 < 8) ∧ (4 ≤ 7 ∧ 7 < 8) ∧ (8 ≤ 8 ∧ 8 < 16) ∧ (8 ≤ 15 ∧ 15 < 16) := by
  decide

/-- Meets the hypotheses of every statement that asks for `Ready s` alone, for `Inv s` alone, for `Ready s` with
`brokenClause s = none`, or for `WellFormedConfig c` alone. -/
theorem witness_ready :
    Ready State.reset ∧ Inv State.reset ∧ brokenClause State.reset = none ∧ WellFormedConfig Config.reference ∧
      WellFormedConfig smallCfg := ⟨by decide, reset_inv, by decide, by decide, by decide⟩

theorem witness_PressHeldThroughResetIsReported : WellFormedConfig smallCfg ∧ 0 ≤ smallCfg.N ∧ 1 ≤ smallCfg.N := by decide

/-- A state for every selection of `EDSEL`. -/
theorem witness_EdgeSelections :
    decodeEdsel (edsel ((db true false 0 false).setPin true)) = .rise ∧
    decodeEdsel (edsel ((db false false 0 true).setPin false)) = .fall ∧
    decodeEdsel (edsel ((db true false 0 false).setPin false)) = .steady0 true ∧
    decodeEdsel (edsel ((db true false 0 true).setPin true)) = .steady1 true ∧
    decodeEdsel (edsel ((db false false 0 false).setPin true)) = .ignoreRise ∧
    decodeEdsel (edsel ((db true false 0 true).setPin false)) = .ignoreFall := by decide

/-- The last clauses of DetectedEdgeOperations and UndetectedEdgeOperations. -/
theorem witness_EdgeVerdicts :
    (edgePhase ((db true false 0 false).setPin true)).sig.det = true ∧
    (edgePhase ((db true true 1 true).setPin false)).sig.det = false := by decide

/-- A state for every selection of `DBSEL`, each on the row of 95_test_vectors.md 2.3 that shows it. -/
theorem witness_DebounceSelections :
    debounceOp (db false false 0 true) true = .idle false false ∧
    debounceOp (db false true 2 true) false = .edge true true true ∧
    debounceOp (db false true 1 false) true = .count false ∧
    debounceOp (db false true 2 false) false = .expireConfirm ∧
    debounceOp (db true true 2 false) false = .expireReject := by decide

theorem witness_CountOperation :
    Ready (db false true 1 false) ∧ (db false true 1 false).TCNT + 1 < (db false true 1 false).cfg.N ∧
      small.cfg.N = 1 := by decide

theorem witness_RejectOperation :
    Inv (db false true 2 true) ∧ debounceOp (db false true 2 true) true = .expireReject ∧
      ∃ t, tickWith (pinWord true) (db false true 2 true) = .next t :=
  ⟨running_inv _ _, by decide, _, rfl⟩

theorem witness_OnlyConfirmEmits :
    (∃ t, exec DbOp.expireConfirm.toInstr (db false true 2 false) = .next t ∧ t.sig.ev ≠ Event.NONE) ∧
    ∃ t, exec (tickInstr false) (db false true 2 false) = .next t ∧ t.fault = none ∧ t.EVT ≠ Event.NONE :=
  ⟨⟨_, rfl, by decide⟩, ⟨_, rfl, by decide, by decide⟩⟩

/-- A state for every selection of `DMSEL`, `PCSEL`, `PWSEL` and `OUTSEL`. -/
theorem witness_OtherSelections :
    decodeDmsel (dmsel ((dm 599 true true).setEv Event.NONE)) = .hold true ∧
    decodeDmsel (dmsel ((dm 800 true true).setEv Event.PRESS)) = .pressStep ∧
    decodeDmsel (dmsel ((dm 801 true true).setEv Event.PRESS)) = .pressWrap ∧
    decodeDmsel (dmsel ((dm 599 true true).setEv Event.RELEASE)) = .release true ∧
    decodeDmsel (dmsel ((dm 900 true true).setEv Event.RESERVED)) = .reserved false ∧
    decodePcsel (pcsel (pw 3 2 true)) = .inc ∧ decodePcsel (pcsel (pw 4 2 true)) = .wrap ∧
    decodePwsel (pwsel (pw 2 2 true)) = .clear false ∧ decodePwsel (pwsel (pw 0 0 true)) = .clear true ∧
    decodePwsel (pwsel (pw 0 2 true)) = .set ∧ decodePwsel (pwsel (pw 1 2 true)) = .hold ∧
    decodeOutsel (outsel (dm 1 true true)) = .pwm ∧ decodeOutsel (outsel (dm 0 true true)) = .latch := by decide

theorem witness_HoldAndReleaseOperations :
    ∃ t, { dm 599 true true with cfg := { Config.reference with EMIT_RELEASE := false } }.cfg.EMIT_RELEASE = false ∧
      exec (tickInstr true) { dm 599 true true with cfg := { Config.reference with EMIT_RELEASE := false } } = .next t ∧
      { dm 599 true true with cfg := { Config.reference with EMIT_RELEASE := false } }.IND = true :=
  ⟨_, rfl, rfl, rfl⟩

theorem witness_PressStepOperation :
    Ready (dm 800 false false) ∧
      (dm 800 false false).DUTY + (dm 800 false false).cfg.STEP ≤ (dm 800 false false).cfg.CEILING := by decide

/-- Clause 3: one state of the block of 95_test_vectors.md 2.4 row 9 (`CEILING = 50`); clause 4: one of row 10 (`D0 = 950`);
then clause 5. -/
theorem witness_PressWrapOperation :
    (∃ s : State, s.sig.ev = 0b01#2 ∧ s.DUTY = 0 ∧ s.cfg.CEILING < s.cfg.STEP) ∧
    (∃ s : State, s.sig.ev = 0b01#2 ∧ s.DUTY = s.cfg.D0 ∧ s.cfg.CEILING < s.cfg.D0) ∧
    (∃ t, exec DmOp.pressWrap.toInstr (dm 900 true true) = .next t ∧ (dm 900 true true).OEN = true ∧ t.OEN = false) :=
  ⟨⟨{ (dm 0 false false).setEv Event.PRESS with cfg := { Config.reference with CEILING := 50 } },
      by decide, by decide, by decide⟩,
    ⟨(State.powerOn { Config.reference with D0 := 950 }).setEv Event.PRESS, by decide, by decide, by decide⟩,
    _, rfl, by decide, by decide⟩

theorem witness_CounterOperations :
    Ready (pw 3 2 true) ∧ (pw 3 2 true).PCNT < (pw 3 2 true).cfg.PERIOD ∧
      ∃ t, Inv State.reset ∧ exec (tickInstr true) State.reset = .next t :=
  ⟨by decide, by decide, _, reset_inv, rfl⟩

theorem witness_InternalOperationFrames :
    (∃ t, exec EdOp.fall.toInstr State.reset = .next t) ∧
    (∃ t, exec (DbOp.edge true true true).toInstr State.reset = .next t) ∧
    (∃ t, exec DmOp.pressWrap.toInstr State.reset = .next t) ∧
    (∃ t, exec PcOp.inc.toInstr State.reset = .next t) ∧
    (∃ t, exec PwOp.set.toInstr State.reset = .next t) ∧
    ∃ t, exec OutOp.pwm.toInstr State.reset = .next t :=
  ⟨⟨_, rfl⟩, ⟨_, rfl⟩, ⟨_, rfl⟩, ⟨_, rfl⟩, ⟨_, rfl⟩, ⟨_, rfl⟩⟩

/-- For PortsReadTheNewRegisters, StepKeepsTheInvariant and ParametersNeverChange. -/
theorem witness_step :
    Inv { State.reset with stim := [0b00#2] } ∧ ∃ t, step { State.reset with stim := [0b00#2] } = .next t :=
  ⟨⟨by decide, by decide, by decide, by decide⟩, _, rfl⟩

theorem witness_IllFormedConfigurationHasNoStep :
    ¬ WellFormedConfig { State.reset with cfg := { Config.reference with STEP := 0 } }.cfg := by decide

theorem witness_FaultedStateTakesNoStep :
    WellFormedConfig { State.reset with fault := some (.invariantBroken .a) }.cfg ∧
      { State.reset with fault := some (.invariantBroken .a) }.fault = some (.invariantBroken .a) := by decide

/-- Every clause of R47 is the first broken one of some state in which operations run. -/
theorem witness_BrokenStateFaultsOnTick :
    brokenClause (db false true 3 true) = some .a ∧ brokenClause (db false false 1 true) = some .b ∧
    brokenClause { State.reset with EIFG := true } = some .c ∧ brokenClause { State.reset with TIFG := true } = some .c ∧
    brokenClause { State.reset with EVT := 0b11#2 } = some .d ∧ brokenClause { State.reset with DUTY := 1000 } = some .e ∧
    brokenClause { State.reset with OEN := false } = some .f ∧ brokenClause { State.reset with PLAT := true } = some .g ∧
    brokenClause { State.reset with PCNT := 1000 } = some .h ∧ Ready { State.reset with PCNT := 1000 } := by decide

theorem witness_ReachableStatesSatisfyEveryClause :
    WellFormedConfig smallCfg ∧ ∃ t, runWords [0b10#2, 0b00#2] (State.powerOn smallCfg) = .next t :=
  ⟨by decide, _, rfl⟩

theorem witness_DebounceRegisterWriters :
    (∃ t, exec .dbExpireConfirm (db false true 2 false) = .next t ∧
      t.ARM ≠ (db false true 2 false).ARM ∧ t.TRUN ≠ (db false true 2 false).TRUN ∧ t.TCNT ≠ (db false true 2 false).TCNT) ∧
    ∃ t, exec (tickInstr false) (db false true 2 false) = .next t ∧ t.ARM ≠ (db false true 2 false).ARM :=
  ⟨⟨_, rfl, by decide, by decide, by decide⟩, ⟨_, rfl, by decide⟩⟩

theorem witness_DutyRegisterWriters :
    (∃ t, exec .dmPressWrap State.reset = .next t ∧ t.DUTY ≠ State.reset.DUTY ∧ t.OEN ≠ State.reset.OEN) ∧
    ∃ t, exec (tickInstr false) (db false true 2 false) = .next t ∧ t.DUTY ≠ (db false true 2 false).DUTY :=
  ⟨⟨_, rfl, by decide, by decide⟩, ⟨_, rfl, by decide⟩⟩

/-- The window of `N = 3` that ends confirmed (pin 0) and the one that ends rejected (pin 1), and the shortest window. -/
theorem witness_QuietWindowExpiresAtTheDeadline :
    (Inv (db false true 0 false) ∧ (db false true 0 false).TRUN = true ∧ (db false true 0 false).TCNT = 0 ∧
      [false, false].length + 1 = (db false true 0 false).cfg.N ∧
      NoDetect ([false, false] ++ [false]) (db false true 0 false) ∧
      NoDetect ([false, false] ++ [true]) (db false true 0 false)) ∧
    (([] : List Bit).length + 1 = small.cfg.N ∧ Inv { small with TRUN := true } ∧
      NoDetect ([] ++ [true]) { small with TRUN := true }) :=
  ⟨⟨db_inv _ _ _, rfl, rfl, rfl, noDetect_of_computed (by decide), noDetect_of_computed (by decide)⟩,
    rfl, ⟨by decide, by decide, by decide, by decide⟩, noDetect_of_computed (by decide)⟩

/-- Bounces of P2 and P6: the last edge comes `N = 3` ticks after the one before it. -/
theorem witness_BouncingEmitsNothing :
    Inv (db false true 0 false) ∧ (db false true 0 false).TRUN = true ∧
      EdgeWithin (db false true 0 false).cfg.N (db false true 0 false).TCNT [false, true, false] (db false true 0 false) :=
  ⟨db_inv _ _ _, rfl, edgeWithin_of_computed (by decide)⟩

theorem witness_EventsAlternate :
    Inv small ∧ (eventsOf (pinTable [false, false, true, true] small))[0]? = some Event.PRESS ∧
      (eventsOf (pinTable [false, false, true, true] small))[1]? = some Event.RELEASE := ⟨small_inv, by decide, by decide⟩

theorem witness_DutyFollowsTheRatchet : Inv small ∧ ∃ t, runPins [false, false] small = .next t := ⟨small_inv, _, rfl⟩

theorem witness_SteadyWaveformIsHighBelowDuty :
    Inv { small with PCNT := 4 } ∧ { small with PCNT := 4 }.PCNT = smallCfg.PERIOD ∧
      [true, true, true, true, true].length ≤ smallCfg.PERIOD + 1 ∧
      ∀ u ∈ pinTable [true, true, true, true, true] { small with PCNT := 4 }, u.DUTY = 1 :=
  ⟨⟨by decide, by decide, by decide, by decide⟩, by decide, by decide, by decide⟩

/-- A glitch as in P8: the fall is rejected at once. -/
theorem witness_RejectedWindowsKeepDutyOenPlatIndTog :
    Inv small ∧ (∃ t, runPins [false, true] small = .next t) ∧ ∀ u ∈ pinTable [false, true] small, u.ARM = small.ARM :=
  ⟨small_inv, ⟨_, rfl⟩, by decide⟩

/-- P8, ticks 2 and 3: the fall, then the tick that rejects it. -/
theorem witness_RejectedBurstDiffersOnlyInPinAndWaveform :
    ∃ u t, Inv small ∧ small.TRUN = false ∧ runPins [false] small = .next u ∧
      (∀ v ∈ pinTable [false] small, v.ARM = small.ARM) ∧ debounceOp u true = .expireReject ∧
      tickWith (pinWord true) u = .next t :=
  ⟨_, _, small_inv, rfl, rfl, by decide, by decide, rfl⟩

/-- The three premises on the counters at the largest value each width holds. -/
theorem witness_ObservationWordFields :
    ∃ s : State, s.TCNT + 1 = 2 ^ s.cfg.TIMER_W ∧ s.DUTY + 1 = 2 ^ s.cfg.DUTY_W ∧ s.PCNT + 1 = 2 ^ s.cfg.DUTY_W :=
  ⟨{ State.reset with TCNT := 3, DUTY := 1023, PCNT := 1023 }, by decide, by decide, by decide⟩

end Sys2Proof.Tests
end

section
/-! The frame of each family of operations, and what no instruction writes (R8, R12, R139). -/

namespace Sys2Proof.Machine

/-! ### An operation of a family runs its effect in the frame of R7 and R125 -/

theorem exec_edOp (op : EdOp) (s : State) : exec op.toInstr s = guarded s (edEffect op) := by cases op <;> rfl
theorem exec_dbOp (op : DbOp) (s : State) : exec op.toInstr s = guarded s (dbEffect op) := by cases op <;> rfl
theorem exec_dmOp (op : DmOp) (s : State) : exec op.toInstr s = guarded s (dmEffect op) := by cases op <;> rfl
theorem exec_pcOp (op : PcOp) (s : State) : exec op.toInstr s = guarded s (pcEffect op) := by cases op <;> rfl
theorem exec_pwOp (op : PwOp) (s : State) : exec op.toInstr s = guarded s (pwEffect op) := by cases op <;> rfl
theorem exec_outOp (op : OutOp) (s : State) : exec op.toInstr s = guarded s (outEffect op) := by cases op <;> rfl

/-! ### The frame of each family (R12) -/

theorem edEffect_frame (op : EdOp) (s : State) :
    edEffect op s =
      { s with EIFG := (edEffect op s).EIFG, sig := { s.sig with det := (edEffect op s).sig.det } } := by
  cases op <;> rfl

theorem dbEffect_frame (op : DbOp) (s : State) :
    dbEffect op s =
      { s with ARM := (dbEffect op s).ARM, TRUN := (dbEffect op s).TRUN, TCNT := (dbEffect op s).TCNT,
               EIFG := (dbEffect op s).EIFG, TIFG := (dbEffect op s).TIFG,
               sig := { s.sig with ev := (dbEffect op s).sig.ev } } := by
  cases op <;> rfl

theorem dmEffect_frame (op : DmOp) (s : State) :
    dmEffect op s =
      { s with DUTY := (dmEffect op s).DUTY, OEN := (dmEffect op s).OEN, PLAT := (dmEffect op s).PLAT,
               IND := (dmEffect op s).IND, TOG := (dmEffect op s).TOG, fault := (dmEffect op s).fault } := by
  cases op <;> rfl

theorem pcEffect_frame (op : PcOp) (s : State) : pcEffect op s = { s with PCNT := (pcEffect op s).PCNT } := by
  cases op <;> rfl

theorem pwEffect_frame (op : PwOp) (s : State) : pwEffect op s = { s with PQ := (pwEffect op s).PQ } := by
  cases op <;> rfl

theorem outEffect_frame (op : OutOp) (s : State) : outEffect op s = { s with pwmOut := (outEffect op s).pwmOut } := by
  cases op <;> rfl

/-- R109: of the duty operations only DM_RESERVED raises a fault. -/
theorem dmEffect_fault (op : DmOp) (s : State) : (∃ f, op = .reserved f) ∨ (dmEffect op s).fault = s.fault := by
  cases op with
  | reserved f => exact .inl ⟨f, rfl⟩
  | hold f => exact .inr rfl
  | pressStep => exact .inr rfl
  | pressWrap => exact .inr rfl
  | release f => exact .inr rfl

/-- Settles O29: a next state is the effect of the operation, and the effects have these frames. -/
theorem internalOperationFrames : Obligations.InternalOperationFrames := by
  unfold Obligations.InternalOperationFrames
  refine ⟨fun op s t h => ?_, fun op s t h => ?_, fun op s t h => ?_, fun op s t h => ?_, fun op s t h => ?_,
    fun op s t h => ?_⟩
  · obtain ⟨-, rfl⟩ := guarded_next (exec_edOp op s ▸ h)
    exact edEffect_frame op s
  · obtain ⟨-, rfl⟩ := guarded_next (exec_dbOp op s ▸ h)
    exact dbEffect_frame op s
  · obtain ⟨⟨-, hf⟩, rfl⟩ := guarded_next (exec_dmOp op s ▸ h)
    exact ⟨dmEffect_frame op s, (dmEffect_fault op s).imp_right (·.trans hf)⟩
  · obtain ⟨-, rfl⟩ := guarded_next (exec_pcOp op s ▸ h)
    exact pcEffect_frame op s
  · obtain ⟨-, rfl⟩ := guarded_next (exec_pwOp op s ▸ h)
    exact pwEffect_frame op s
  · obtain ⟨-, rfl⟩ := guarded_next (exec_outOp op s ▸ h)
    exact outEffect_frame op s

/-! ### Every instruction belongs to one family -/

/-- The instructions, sorted by the decode vector that selects them (R63). -/
inductive InstrFamily : Instr → Prop where
  | rst (pin : Bit) : InstrFamily (.rst pin)
  | tick (pin : Bit) : InstrFamily (tickInstr pin)
  | ed (op : EdOp) : InstrFamily op.toInstr
  | db (op : DbOp) : InstrFamily op.toInstr
  | dm (op : DmOp) : InstrFamily op.toInstr
  | pc (op : PcOp) : InstrFamily op.toInstr
  | pw (op : PwOp) : InstrFamily op.toInstr
  | out (op : OutOp) : InstrFamily op.toInstr

theorem instrFamily : ∀ i : Instr, InstrFamily i
  | .rst pin => .rst pin
  | .t0 => .tick false
  | .t1 => .tick true
  | .edRise => .ed .rise
  | .edFall => .ed .fall
  | .edSteady0 arm => .ed (.steady0 arm)
  | .edSteady1 arm => .ed (.steady1 arm)
  | .edIgnoreRise => .ed .ignoreRise
  | .edIgnoreFall => .ed .ignoreFall
  | .dbEdge trun last matching => .db (.edge trun last matching)
  | .dbCount matching => .db (.count matching)
  | .dbExpireConfirm => .db .expireConfirm
  | .dbExpireReject => .db .expireReject
  | .dbIdle last matching => .db (.idle last matching)
  | .dmHold fits => .dm (.hold fits)
  | .dmPressStep => .dm .pressStep
  | .dmPressWrap => .dm .pressWrap
  | .dmRelease fits => .dm (.release fits)
  | .dmReserved fits => .dm (.reserved fits)
  | .pcInc => .pc .inc
  | .pcWrap => .pc .wrap
  | .pwClear setBit => .pw (.clear setBit)
  | .pwSet => .pw .set
  | .pwHold => .pw .hold
  | .outPwm => .out .pwm
  | .outLatch => .out .latch

/-! ### What no instruction writes: the parameters (R8) and the environment's fields (R139) -/

/-- `t` is a state of the block of `s`, with the same words pending at the same tick number. -/
structure SameContext (s t : State) : Prop where
  cfg : t.cfg = s.cfg
  stim : t.stim = s.stim
  ticks : t.ticks = s.ticks

theorem SameContext.trans {s t u : State} (hst : SameContext s t) (htu : SameContext t u) : SameContext s u :=
  ⟨htu.cfg.trans hst.cfg, htu.stim.trans hst.stim, htu.ticks.trans hst.ticks⟩

theorem edEffect_sameContext (op : EdOp) (s : State) : SameContext s (edEffect op s) := by
  rw [edEffect_frame]
  exact ⟨rfl, rfl, rfl⟩

theorem dbEffect_sameContext (op : DbOp) (s : State) : SameContext s (dbEffect op s) := by
  rw [dbEffect_frame]
  exact ⟨rfl, rfl, rfl⟩

theorem dmEffect_sameContext (op : DmOp) (s : State) : SameContext s (dmEffect op s) := by
  rw [dmEffect_frame]
  exact ⟨rfl, rfl, rfl⟩

theorem pcEffect_sameContext (op : PcOp) (s : State) : SameContext s (pcEffect op s) := by
  rw [pcEffect_frame]
  exact ⟨rfl, rfl, rfl⟩

theorem pwEffect_sameContext (op : PwOp) (s : State) : SameContext s (pwEffect op s) := by
  rw [pwEffect_frame]
  exact ⟨rfl, rfl, rfl⟩

theorem outEffect_sameContext (op : OutOp) (s : State) : SameContext s (outEffect op s) := by
  rw [outEffect_frame]
  exact ⟨rfl, rfl, rfl⟩

/-- A tick of a fault-free state is a chain of effects, one per phase, none of which leaves the context. -/
theorem tick_sameContext {s : State} (pin : Bit) (h : s.fault = none) : SameContext s (tick pin s) := by
  have hpin : SameContext s (s.setPin pin) := ⟨rfl, rfl, rfl⟩
  have hlatch : ∀ u : State, SameContext u u.latchTick := fun _ => ⟨rfl, rfl, rfl⟩
  rw [tick_of_no_fault pin h]
  exact hpin |>.trans (edEffect_sameContext _ _) |>.trans (dbEffect_sameContext _ _)
    |>.trans (dmEffect_sameContext _ _) |>.trans (pcEffect_sameContext _ _) |>.trans (pwEffect_sameContext _ _)
    |>.trans (hlatch _) |>.trans (outEffect_sameContext _ _)

theorem rstEffect_sameContext (s : State) : SameContext s (rstEffect s) :=
  have hreset : SameContext s (resetRegisters s) := ⟨rfl, rfl, rfl⟩
  hreset.trans (outEffect_sameContext _ _)

/-- R8, R139: whatever the instruction, its next state has the same parameters, pending words and tick number. -/
theorem exec_sameContext {i : Instr} {s t : State} (h : exec i s = .next t) : SameContext s t := by
  cases instrFamily i with
  | rst pin =>
    obtain ⟨-, rfl⟩ := guarded_next (exec_rst pin s ▸ h)
    exact rstEffect_sameContext s
  | tick pin =>
    obtain ⟨⟨-, hf⟩, ⟨k, -, rfl⟩ | ⟨-, rfl⟩⟩ := exec_tickInstr_next h
    · exact ⟨rfl, rfl, rfl⟩
    · exact tick_sameContext pin hf
  | ed op =>
    obtain ⟨-, rfl⟩ := guarded_next (exec_edOp op s ▸ h)
    exact edEffect_sameContext op s
  | db op =>
    obtain ⟨-, rfl⟩ := guarded_next (exec_dbOp op s ▸ h)
    exact dbEffect_sameContext op s
  | dm op =>
    obtain ⟨-, rfl⟩ := guarded_next (exec_dmOp op s ▸ h)
    exact dmEffect_sameContext op s
  | pc op =>
    obtain ⟨-, rfl⟩ := guarded_next (exec_pcOp op s ▸ h)
    exact pcEffect_sameContext op s
  | pw op =>
    obtain ⟨-, rfl⟩ := guarded_next (exec_pwOp op s ▸ h)
    exact pwEffect_sameContext op s
  | out op =>
    obtain ⟨-, rfl⟩ := guarded_next (exec_outOp op s ▸ h)
    exact outEffect_sameContext op s

/-- Settles O41: a step is an instruction run on the advanced state, and advancing writes no parameter. -/
theorem parametersNeverChange : Obligations.ParametersNeverChange := by
  unfold Obligations.ParametersNeverChange
  refine ⟨fun i s t h => ?_, fun s t h => ?_⟩
  · obtain ⟨hcfg, hstim, hticks⟩ := exec_sameContext h
    exact ⟨hcfg, hstim, hticks⟩
  · have hexec : exec (decodeStim s.nextWord).toInstr s.advance = .next t := h
    exact (exec_sameContext hexec).cfg

end Sys2Proof.Machine
end

section
/-! What R7 gives: no step under an ill-formed configuration, and counters that fit under a well-formed one. -/

namespace Sys2Proof.Machine

/-- R7, log 14: every instruction names the first condition that a configuration breaks, whatever the fault flag. -/
theorem exec_illFormed {s : State} {k : ConfigCondition} (hk : brokenCondition s.cfg = some k) (i : Instr) :
    exec i s = .refused (.illFormedConfig k) := by
  obtain ⟨effect, hexec⟩ := exec_guarded i
  rw [hexec, guarded_illFormed hk]

/-- Settles O34: the seven conditions are the ones checked, and the first broken one is the one every refusal names. -/
theorem illFormedConfigurationHasNoStep : Obligations.IllFormedConfigurationHasNoStep := by
  unfold Obligations.IllFormedConfigurationHasNoStep
  refine ⟨wellFormedConfig_iff, fun s hs => ?_⟩
  obtain ⟨k, hk⟩ := Option.ne_none_iff_exists'.mp hs
  exact ⟨k, brokenCondition_fails hk, exec_illFormed hk, exec_illFormed (s := s.advance) hk _⟩

/-- Settles O42: the clauses (a), (e) and (h) of R47 bound the counters by `N - 1` and `PERIOD`, which fit by R7. -/
theorem countersFitTheirWidths : Obligations.CountersFitTheirWidths := by
  unfold Obligations.CountersFitTheirWidths
  intro s hs
  obtain ⟨hN, -, -, -, -, hTimer, hDuty⟩ := (wellFormedConfig_iff s.cfg).mp hs.ready.1
  obtain ⟨hTCNT, -, -, -, hDUTY, -, -, hPCNT⟩ := (brokenClause_none_iff s).mp hs.clauses
  have hTCNT' : s.TCNT < s.cfg.N := by omega
  exact ⟨hTCNT'.trans_le hTimer, hDUTY.trans_lt hDuty, hPCNT.trans_lt hDuty⟩

end Sys2Proof.Machine
end

section
/-! The invariant of R47: it holds at reset, the phases of a tick keep what they need of it, and every step keeps it. -/

namespace Sys2Proof.Machine

/-! ### The invariant does not speak of the environment, and the output selection completes it -/

theorem Inv.withEnvironment {s : State} (h : Inv s) (q : List StimWord) (n : Nat) : Inv (withEnvironment q n s) :=
  ⟨h.ready, h.clauses, h.idle, h.line⟩

theorem Inv.advance {s : State} (h : Inv s) : Inv s.advance := h.withEnvironment s.stim.tail (s.ticks + 1)

theorem Inv.present {s : State} (h : Inv s) (w : StimWord) : Inv (s.present w) :=
  h.withEnvironment (w :: s.stim) s.ticks

/-- R42, log 6: the output selection writes the line alone, and writes what the ports read. -/
theorem outputPhase_inv {s : State} (hready : Ready s) (hclauses : brokenClause s = none)
    (hidle : s.sig = Signals.idle) : Inv (outputPhase s) := by
  rw [outputPhase_eq]
  exact ⟨hready, hclauses, hidle, rfl⟩

/-! ### Reset (R143, R144) -/

theorem powerOn_clauses {c : Config} (h : WellFormedConfig c) : brokenClause (State.powerOn c) = none := by
  obtain ⟨-, -, -, -, hD0, -, -⟩ := (wellFormedConfig_iff c).mp h
  rw [brokenClause_none_iff]
  have hEVT : Event.NONE ≠ Event.RESERVED := by decide
  exact ⟨Nat.zero_le _, fun _ => rfl, ⟨rfl, rfl⟩, hEVT, hD0, rfl, rfl, Nat.zero_le _⟩

theorem powerOn_line (c : Config) : (State.powerOn c).pwmOut = (portsOf (State.powerOn c)).pwm_out := by
  by_cases h : c.D0 = 0 <;> simp [State.powerOn, portsOf, h]

theorem powerOn_inv {c : Config} (h : WellFormedConfig c) : Inv (State.powerOn c) :=
  ⟨⟨h, rfl⟩, powerOn_clauses h, rfl, powerOn_line c⟩

/-- R144: RST gives the power-on state of the block, in the environment as it stands. -/
theorem rstEffect_eq_powerOn {s : State} (h : Ready s) :
    rstEffect s = withEnvironment s.stim s.ticks (State.powerOn s.cfg) := by
  obtain ⟨hwf, hfault⟩ := h
  obtain ⟨-, -, -, -, hD0, -, hDuty⟩ := (wellFormedConfig_iff s.cfg).mp hwf
  have hfit : fitWidth s.cfg.DUTY_W s.cfg.D0 = s.cfg.D0 := fitWidth_of_lt (hD0.trans_lt hDuty)
  have hregs : resetRegisters s = (withEnvironment s.stim s.ticks (State.powerOn s.cfg)).setPwmOut s.pwmOut := by
    simp [resetRegisters, withEnvironment, State.powerOn, State.setPwmOut, hfit, hfault]
  rw [rstEffect, outputPhase_eq, hregs]
  exact congrArg (withEnvironment s.stim s.ticks (State.powerOn s.cfg)).setPwmOut (powerOn_line s.cfg).symm

/-! ### Between the operations of a tick -/

/-- What holds between any two operations of a tick: R47 without `EIFG` of clause (c), which is set from ED_RISE or
ED_FALL to DB_EDGE (R89), and without clause (d), since `EVT` is written at the end of the tick. -/
structure MidTick (s : State) : Prop where
  ready : Ready s
  tcnt_le : s.TCNT ≤ s.cfg.N - 1
  tcnt_stopped : s.TRUN = false → s.TCNT = 0
  tifg : s.TIFG = false
  duty_le : s.DUTY ≤ s.cfg.PERIOD
  oen_eq : s.OEN = decide (s.DUTY ≠ 0)
  plat : s.PLAT = false
  pcnt_le : s.PCNT ≤ s.cfg.PERIOD

theorem ready_clauses_iff_midTick (s : State) :
    Ready s ∧ brokenClause s = none ↔ MidTick s ∧ s.EIFG = false ∧ s.EVT ≠ Event.RESERVED := by
  rw [brokenClause_none_iff]
  constructor
  · rintro ⟨hready, ha, hb, ⟨heifg, htifg⟩, hd, he, hf, hg, hh⟩
    exact ⟨⟨hready, ha, hb, htifg, he, hf, hg, hh⟩, heifg, hd⟩
  · rintro ⟨⟨hready, ha, hb, htifg, he, hf, hg, hh⟩, heifg, hd⟩
    exact ⟨hready, ha, hb, ⟨heifg, htifg⟩, hd, he, hf, hg, hh⟩

theorem MidTick.setPin {s : State} (h : MidTick s) (pin : Bit) : MidTick (s.setPin pin) := { h with }

theorem MidTick.latchTick {s : State} (h : MidTick s) : MidTick s.latchTick := { h with }

theorem MidTick.edgePhase {s : State} (h : MidTick s) : MidTick (edgePhase s) := by
  rw [edgePhase_eq]
  split
  · exact { h with }
  · exact { h with }

/-- R93: below the end of the window the count is at most `N - 1` and fits its register. -/
theorem MidTick.dbCountEffect {s : State} (h : MidTick s) (hrun : s.TRUN = true) (hcount : s.TCNT + 1 < s.cfg.N) :
    MidTick (dbCountEffect s) := by
  obtain ⟨-, -, -, -, -, hTimer, -⟩ := (wellFormedConfig_iff s.cfg).mp h.ready.1
  have hTCNT : (Machine.dbCountEffect s).TCNT = s.TCNT + 1 := fitWidth_of_lt (hcount.trans_le hTimer)
  exact { h with
    tcnt_le := hTCNT.trans_le (Nat.le_sub_one_of_lt hcount)
    tcnt_stopped := fun hstop => absurd (hrun.symm.trans hstop) (by decide) }

/-- R92 to R95: every debounce operation stops the timer at 0, restarts it at 0, counts below the end of the window, or
leaves it alone. -/
theorem MidTick.debouncePhase {s : State} (h : MidTick s) : MidTick (debouncePhase s) := by
  have hzero : fitWidth s.cfg.TIMER_W 0 = 0 := fitWidth_zero _
  have hle : fitWidth s.cfg.TIMER_W 0 ≤ s.cfg.N - 1 := hzero.trans_le (Nat.zero_le _)
  rw [debouncePhase_eq]
  split
  · exact { h with tcnt_le := hle, tcnt_stopped := fun _ => hzero }
  · split
    · split
      · split
        · exact { h with tcnt_le := hle, tcnt_stopped := fun _ => hzero, tifg := rfl }
        · exact { h with tcnt_le := hle, tcnt_stopped := fun _ => hzero, tifg := rfl }
      · exact h.dbCountEffect ‹_› (Nat.lt_of_not_le ‹_›)
    · exact { h with }

/-- R106: a step that fits under `CEILING` stays within `PERIOD` and is not 0. -/
theorem MidTick.dmPressStepEffect {s : State} (h : MidTick s) (hfits : s.DUTY + s.cfg.STEP ≤ s.cfg.CEILING) :
    MidTick (dmPressStepEffect s) := by
  obtain ⟨-, -, hSTEP, hCEILING, -, -, hDuty⟩ := (wellFormedConfig_iff s.cfg).mp h.ready.1
  have hle : s.DUTY + s.cfg.STEP ≤ s.cfg.PERIOD := hfits.trans hCEILING
  have hDUTY : (Machine.dmPressStepEffect s).DUTY = s.DUTY + s.cfg.STEP := fitWidth_of_lt (hle.trans_lt hDuty)
  have hne : (Machine.dmPressStepEffect s).DUTY ≠ 0 := by omega
  exact { h with duty_le := hDUTY.trans_le hle, oen_eq := (decide_eq_true hne).symm }

/-- R107: the wrap disables the output together with the duty. -/
theorem MidTick.dmPressWrapEffect {s : State} (h : MidTick s) : MidTick (dmPressWrapEffect s) := by
  have hDUTY : (Machine.dmPressWrapEffect s).DUTY = 0 := fitWidth_zero _
  exact { h with
    duty_le := hDUTY.trans_le (Nat.zero_le _)
    oen_eq := (decide_eq_false (not_not_intro hDUTY)).symm
    plat := rfl }

theorem MidTick.dutyPhase {s : State} (h : MidTick s) (hev : s.sig.ev ≠ Event.RESERVED) : MidTick (dutyPhase s) := by
  rw [dutyPhase_eq hev]
  split
  · split
    · exact h.dmPressStepEffect ‹_›
    · exact h.dmPressWrapEffect
  · split
    · exact { h with }
    · exact h

/-- R114, R115: the counter wraps at `PERIOD` and rises below it, within its width. -/
theorem MidTick.counterPhase {s : State} (h : MidTick s) : MidTick (counterPhase s) := by
  obtain ⟨-, -, -, -, -, -, hDuty⟩ := (wellFormedConfig_iff s.cfg).mp h.ready.1
  rw [counterPhase_eq]
  split
  · have hPCNT : (pcWrapEffect s).PCNT = 0 := fitWidth_zero _
    exact { h with pcnt_le := hPCNT.trans_le (Nat.zero_le _) }
  · have hle : s.PCNT + 1 ≤ s.cfg.PERIOD := Nat.lt_of_not_le ‹_›
    have hPCNT : (pcIncEffect s).PCNT = s.PCNT + 1 := fitWidth_of_lt (hle.trans_lt hDuty)
    exact { h with pcnt_le := hPCNT.trans_le hle }

theorem MidTick.latchPhase {s : State} (h : MidTick s) : MidTick (latchPhase s) := by
  rw [latchPhase_eq]
  split
  · exact { h with }
  · split
    · exact { h with }
    · exact h

/-! ### The edge flag and the event code within a tick -/

/-- R86 to R88: with no edge pending before it, phase 1 leaves `EIFG` at the verdict it gives. -/
theorem edgePhase_EIFG {s : State} (h : s.EIFG = false) : (edgePhase s).EIFG = (edgePhase s).sig.det := by
  rw [edgePhase_eq]
  split
  · rfl
  · exact h

/-- R89: the debounce operation of a detected edge clears its flag, and without one there is none to clear. -/
theorem debouncePhase_EIFG {s : State} (h : s.EIFG = s.sig.det) : (debouncePhase s).EIFG = false := by
  rw [debouncePhase_eq]
  split
  · rfl
  · rename_i hdet
    have hclear : s.EIFG = false := h.trans (Bool.eq_false_of_not_eq_true hdet)
    repeat' split
    all_goals exact hclear

/-- Phases 3 to 5 write no flag and no signal. -/
theorem lastPhases_EIFG_sig (s : State) :
    (latchPhase (counterPhase (dutyPhase s))).EIFG = s.EIFG ∧
      (latchPhase (counterPhase (dutyPhase s))).sig = s.sig := by
  rw [latchPhase, pwEffect_frame, counterPhase, pcEffect_frame, dutyPhase, dmEffect_frame]
  exact ⟨rfl, rfl⟩

/-! ### Ticks, steps and runs -/

/-- From a state of R47 no phase of a tick meets the reserved event, and the phases compose. -/
theorem tick_inv {s : State} (h : Inv s) (pin : Bit) : Inv (tick pin s) := by
  obtain ⟨hmid, heifg, -⟩ := (ready_clauses_iff_midTick s).mp ⟨h.ready, h.clauses⟩
  rw [tick_of_no_fault pin h.ready.2]
  generalize hs2 : debouncePhase (edgePhase (s.setPin pin)) = s2
  have hmid2 : MidTick s2 := hs2 ▸ (hmid.setPin pin).edgePhase.debouncePhase
  have hev2 : s2.sig.ev ≠ Event.RESERVED := hs2 ▸ debouncePhase_ev_ne_reserved _
  have heifg2 : s2.EIFG = false := hs2 ▸ debouncePhase_EIFG (edgePhase_EIFG heifg)
  obtain ⟨heifg5, hsig5⟩ := lastPhases_EIFG_sig s2
  have hmid5 := (hmid2.dutyPhase hev2).counterPhase.latchPhase.latchTick
  have hev5 : (latchPhase (counterPhase (dutyPhase s2))).sig.ev ≠ Event.RESERVED := hsig5 ▸ hev2
  obtain ⟨hready, hclauses⟩ := (ready_clauses_iff_midTick _).mpr ⟨hmid5, heifg5.trans heifg2, hev5⟩
  exact outputPhase_inv hready hclauses rfl

theorem step_inv {s t : State} (h : Inv s) (hstep : step s = .next t) : Inv t := by
  have hexec : exec (decodeStim s.nextWord).toInstr s.advance = .next t := hstep
  obtain ⟨pin, hop⟩ | ⟨pin, hop⟩ := decodeStim_cases s.nextWord
  · rw [hop, exec_rst] at hexec
    obtain ⟨hready, rfl⟩ := guarded_next hexec
    rw [rstEffect_eq_powerOn hready]
    exact (powerOn_inv hready.1).withEnvironment _ _
  · rw [hop] at hexec
    obtain ⟨-, ⟨k, hk, -⟩ | ⟨-, rfl⟩⟩ := exec_tickInstr_next hexec
    · exact absurd (hk.symm.trans h.advance.clauses) (by simp)
    · exact tick_inv h.advance pin

theorem step_cfg {s t : State} (hstep : step s = .next t) : t.cfg = s.cfg := parametersNeverChange.2 s t hstep

/-- A run of any words keeps the invariant and the parameters. -/
theorem runWords_inv {ws : List StimWord} {s t : State} (h : Inv s) (hrun : runWords ws s = .next t) :
    Inv t ∧ t.cfg = s.cfg := by
  induction ws generalizing s with
  | nil =>
    cases hrun
    exact ⟨h, rfl⟩
  | cons w ws ih =>
    obtain ⟨u, hu, hrest⟩ := andThen_eq_next hrun
    obtain ⟨hinv, hcfg⟩ := ih (step_inv (h.present w) hu) hrest
    exact ⟨hinv, hcfg.trans (step_cfg (s := s.present w) hu)⟩

/-! ### The obligations -/

/-- Settles O12: R143 gives every register a value within R47 (D0 by R7), and `pwmOut` the value R42 reads. -/
theorem invariantHoldsAtReset : Obligations.InvariantHoldsAtReset := by
  unfold Obligations.InvariantHoldsAtReset
  exact ⟨fun _ h => powerOn_inv h, powerOn_inv (by decide)⟩

/-- Settles O37: a reset step answers the power-on state, and a tick keeps `MidTick` from phase to phase. -/
theorem stepKeepsTheInvariant : Obligations.StepKeepsTheInvariant := by
  unfold Obligations.StepKeepsTheInvariant
  exact fun _ _ => step_inv

/-- Settles O32: the new state satisfies the invariant, whose last clause ties the line to the ports. -/
theorem portsReadTheNewRegisters : Obligations.PortsReadTheNewRegisters := by
  unfold Obligations.PortsReadTheNewRegisters
  exact fun _ _ h hstep => ⟨rfl, (step_inv h hstep).line.symm⟩

/-- Settles O39: a run from reset keeps the invariant, and the invariant holds the clauses. -/
theorem reachableStatesSatisfyEveryClause : Obligations.ReachableStatesSatisfyEveryClause := by
  unfold Obligations.ReachableStatesSatisfyEveryClause
  intro c ws t hwf hrun
  obtain ⟨hinv, hcfg⟩ := runWords_inv (powerOn_inv hwf) hrun
  obtain rfl : t.cfg = c := hcfg
  obtain ⟨ha, hb, hc, hd, he, hf, hg, hh⟩ := (brokenClause_none_iff t).mp hinv.clauses
  exact ⟨ha, hb, hc, hd, he, hf, hg, hh, hinv.ready.2⟩

end Sys2Proof.Machine
end

section
/-! The encodings (R63, R64, R66 to R69, R72 to R74, R77, R82): the decoder and the encoder are inverse to each other on
the words of each format, and each word has one row of the opcode table. -/

namespace Sys2Proof

/-! ### The decoder -/

theorem RawWord.wf_iff (r : RawWord) : r.wf = true ↔ r.value < 2 ^ r.format.width := decide_eq_true_iff

theorem decode_of_wf {r : RawWord} (h : r.wf = true) : decode r = .ok (decodeValue r.format r.value) := if_pos h

theorem decode_of_wide {f : Format} {v : Nat} (h : 2 ^ f.width ≤ v) : decode ⟨f, v⟩ = .error (.tooWide f v) :=
  if_neg fun hwf => Nat.not_lt_of_le h ((RawWord.wf_iff ⟨f, v⟩).mp hwf)

theorem decode_eq_ok_iff {r : RawWord} {i : Instr} :
    decode r = .ok i ↔ r.wf = true ∧ decodeValue r.format r.value = i := by
  by_cases h : r.wf = true <;> simp [decode, h]

/-- R64: a stimulus word is a word of `STIM`, whichever it is. -/
theorem decode_stimWord (w : StimWord) : decode ⟨.STIM, w.toNat⟩ = .ok (decodeStim w).toInstr := by
  rw [decode_of_wf ((RawWord.wf_iff _).mpr w.isLt), decodeValue, BitVec.ofNat_toNat, BitVec.setWidth_eq]

/-! ### The round trips -/

/-- The bits the encoder writes are the bits the decoder reads, whatever the operands are. -/
theorem decodeValue_encode (i : Instr) : decodeValue (encode i).format (encode i).value = i := by
  cases i with
  | t0 | t1 | edRise | edFall | edIgnoreRise | edIgnoreFall | dbExpireConfirm | dbExpireReject | dmPressStep
  | dmPressWrap | pcInc | pcWrap | pwSet | pwHold | outPwm | outLatch => rfl
  | rst b | edSteady0 b | edSteady1 b | dbCount b | dmHold b | dmRelease b | dmReserved b | pwClear b =>
    cases b <;> rfl
  | dbIdle last matching => cases last <;> cases matching <;> rfl
  | dbEdge trun last matching => cases trun <;> cases last <;> cases matching <;> rfl

/-- The formats have 44 values in all, and the encoder gives each of them back from the instruction read in it. -/
theorem encode_decodeValue (f : Format) : ∀ v < 2 ^ f.width, encode (decodeValue f v) = ⟨f, v⟩ := by
  cases f <;> decide

theorem encode_of_decode {r : RawWord} {i : Instr} (h : decode r = .ok i) : encode i = r := by
  obtain ⟨hwf, rfl⟩ := decode_eq_ok_iff.mp h
  exact encode_decodeValue r.format r.value ((RawWord.wf_iff r).mp hwf)

/-! ### The opcode table (R82) -/

/-- Every instruction's word fits its format and matches the instruction's own row. -/
theorem tableRow : ∀ i : Instr, Laws.TableRow.Statement i
  | .rst pin => Laws.TableRow.rst pin
  | .t0 => Laws.TableRow.t0
  | .t1 => Laws.TableRow.t1
  | .edRise => Laws.TableRow.edRise
  | .edFall => Laws.TableRow.edFall
  | .edSteady0 arm => Laws.TableRow.edSteady0 arm
  | .edSteady1 arm => Laws.TableRow.edSteady1 arm
  | .edIgnoreRise => Laws.TableRow.edIgnoreRise
  | .edIgnoreFall => Laws.TableRow.edIgnoreFall
  | .dbEdge trun last matching => Laws.TableRow.dbEdge trun last matching
  | .dbCount matching => Laws.TableRow.dbCount matching
  | .dbExpireConfirm => Laws.TableRow.dbExpireConfirm
  | .dbExpireReject => Laws.TableRow.dbExpireReject
  | .dbIdle last matching => Laws.TableRow.dbIdle last matching
  | .dmHold fits => Laws.TableRow.dmHold fits
  | .dmPressStep => Laws.TableRow.dmPressStep
  | .dmPressWrap => Laws.TableRow.dmPressWrap
  | .dmRelease fits => Laws.TableRow.dmRelease fits
  | .dmReserved fits => Laws.TableRow.dmReserved fits
  | .pcInc => Laws.TableRow.pcInc
  | .pcWrap => Laws.TableRow.pcWrap
  | .pwClear setBit => Laws.TableRow.pwClear setBit
  | .pwSet => Laws.TableRow.pwSet
  | .pwHold => Laws.TableRow.pwHold
  | .outPwm => Laws.TableRow.outPwm
  | .outLatch => Laws.TableRow.outLatch

/-- Two rows of different formats, or whose patterns differ at a bit that both masks fix. -/
def OpcodeRow.apart (a b : OpcodeRow) : Bool :=
  decide (a.format ≠ b.format) || decide (a.pattern &&& b.mask ≠ b.pattern &&& a.mask)

theorem OpcodeRow.selects_iff (row : OpcodeRow) (r : RawWord) :
    row.selects r = true ↔ row.format = r.format ∧ r.value &&& row.mask = row.pattern := by
  simp [OpcodeRow.selects]

/-- No value, of any width, matches two rows that are apart: under both masks it would have both patterns. -/
theorem OpcodeRow.not_selects_of_apart {a b : OpcodeRow} {r : RawWord} (hapart : a.apart b = true)
    (ha : a.selects r = true) : b.selects r ≠ true := by
  intro hb
  obtain ⟨hfa, hpa⟩ := (selects_iff a r).mp ha
  obtain ⟨hfb, hpb⟩ := (selects_iff b r).mp hb
  have hformat : a.format = b.format := hfa.trans hfb.symm
  have hpattern : a.pattern &&& b.mask = b.pattern &&& a.mask := by
    rw [← hpa, ← hpb, Nat.and_right_comm]
  simp [apart, hformat, hpattern] at hapart

theorem opcodeTable_apart : ∀ a ∈ opcodeTable, ∀ b ∈ opcodeTable, a.apart b = true ∨ b = a := by
  decide

/-- R74: at most one row of the table matches a value. -/
theorem opcodeTable_selects_unique {a b : OpcodeRow} {r : RawWord} (ha : a ∈ opcodeTable) (hb : b ∈ opcodeTable)
    (hsa : a.selects r = true) (hsb : b.selects r = true) : b = a :=
  (opcodeTable_apart a ha b hb).resolve_left fun h => OpcodeRow.not_selects_of_apart h hsa hsb

/-! ### The obligations -/

/-- Settles O2: the encoder's word fits (`tableRow`) and the decoder reads the instruction from it. -/
theorem decodeOfEncodeIsTheInstruction : Obligations.DecodeOfEncodeIsTheInstruction := by
  unfold Obligations.DecodeOfEncodeIsTheInstruction
  intro i
  obtain ⟨hwf, -⟩ := tableRow i
  exact ⟨hwf, decode_eq_ok_iff.mpr ⟨hwf, decodeValue_encode i⟩⟩

/-- Settles O3: the decoder accepts only values that fit, and on those the encoder undoes it. -/
theorem encodeOfDecodeIsTheWord : Obligations.EncodeOfDecodeIsTheWord := by
  unfold Obligations.EncodeOfDecodeIsTheWord
  exact fun _ _ => encode_of_decode

/-- Settles O4: the value is the word of the instruction read in it, so that instruction's row matches; the rows are
pairwise apart, so no other row does. -/
theorem oneTableRowPerValue : Obligations.OneTableRowPerValue := by
  unfold Obligations.OneTableRowPerValue
  intro r hwf
  have hdecode := decode_of_wf hwf
  obtain ⟨-, row, hrow, hname, hselects⟩ := tableRow (decodeValue r.format r.value)
  rw [encode_of_decode hdecode] at hselects
  exact ⟨_, row, hdecode, hrow, hselects, hname,
    fun _ hrow' hselects' => opcodeTable_selects_unique hrow hrow' hselects hselects'⟩

/-- Settles O1: each of the ten words is evaluated. -/
theorem specWordsDecode : Obligations.SpecWordsDecode := by
  unfold Obligations.SpecWordsDecode
  exact ⟨rfl, rfl, rfl, rfl, rfl, rfl, rfl, rfl, rfl, rfl⟩

/-- Settles O5: such a value is not below 2 to the width, the decoder's only condition. -/
theorem wideValuesAreRejected : Obligations.WideValuesAreRejected := by
  unfold Obligations.WideValuesAreRejected
  exact fun _ _ => decode_of_wide

end Sys2Proof
end

section
/-! Stimulus words: a step runs the word presented to it (R64, R85), the words of the statements (R78, R79), and pending
words as the words the next ticks present (R80, R139). -/

namespace Sys2Proof.Machine

/-! ### A step runs the word presented to it -/

theorem step_of_decode {s : State} {i : Instr} (h : decode ⟨.STIM, s.nextWord.toNat⟩ = .ok i) :
    step s = exec i s.advance := by
  obtain rfl : (decodeStim s.nextWord).toInstr = i := by simpa [decode_stimWord] using h
  rfl

/-- Settles O6: the next word is the first pending one, or the free one, and both are taken by `State.advance`. -/
theorem stepRunsTheDecodedInstruction : Obligations.StepRunsTheDecodedInstruction := by
  unfold Obligations.StepRunsTheDecodedInstruction
  refine ⟨fun s w rest i hstim hdecode => ?_, fun s i hstim hdecode => ?_⟩
  · have hnext : s.nextWord = w := by simp [State.nextWord, hstim]
    rw [step_of_decode (hnext.symm ▸ hdecode), State.advance, hstim, List.tail_cons]
  · have hnext : s.nextWord = Config.freeStimulus s.ticks := by simp [State.nextWord, hstim]
    rw [step_of_decode (hnext.symm ▸ hdecode), State.advance, hstim, List.tail_nil, ← hstim]

/-! ### Pending words -/

/-- A pending word is taken as if the environment presented it; the words behind it are still pending after the tick. -/
theorem step_of_pending (w : StimWord) (q : List StimWord) (s : State) :
    step { s with stim := w :: q } = outcomeWithEnvironment q (s.ticks + 1) (tickWith w s) :=
  exec_stimOp_withEnvironment q (s.ticks + 1) (decodeStim w) { s with ticks := s.ticks + 1 }

theorem tickWith_next {w : StimWord} {s t : State} (h : tickWith w s = .next t) :
    t.stim = s.stim ∧ t.ticks = s.ticks + 1 := by
  have hexec : exec (decodeStim w).toInstr { s with ticks := s.ticks + 1 } = .next t := h
  obtain ⟨-, hstim, hticks⟩ := exec_sameContext hexec
  exact ⟨hstim, hticks⟩

theorem core_run_succ (k : Nat) (s : State) : core.run (k + 1) s = andThen (step s) (core.run k) := by
  have hstep : core.step s = step s := rfl
  simp only [Host.Core.run, hstep]
  cases step s <;> rfl

/-- Settles O8, by induction on the words: the tick reads no pending word and leaves them pending, one fewer. -/
theorem pendingWordsRunInOrder : Obligations.PendingWordsRunInOrder := by
  unfold Obligations.PendingWordsRunInOrder
  intro ws
  induction ws with
  | nil => exact fun _ => rfl
  | cons w ws ih =>
    intro s
    rw [List.length_cons, List.cons_append, core_run_succ, step_of_pending, runWords]
    cases htick : tickWith w s with
    | next t =>
      obtain ⟨hstim, hticks⟩ := tickWith_next htick
      rw [andThen_next, ← ih t, hstim, ← hticks]
      rfl
    | fault f => rfl
    | refused r => rfl

/-! ### The statements' words -/

/-- Settles O54: `PRESS` and `REL` are written by the active level, which is the word's pin bit. -/
theorem statementsEncodeAsTheirWords : Obligations.StatementsEncodeAsTheirWords := by
  unfold Obligations.StatementsEncodeAsTheirWords
  intro c k
  refine ⟨rfl, rfl, rfl, ?_, ?_⟩
  · cases h : c.ACT <;> simp [expandStmt, h, pinWord]
  · cases h : c.ACT <;> simp [expandStmt, h, pinWord]

end Sys2Proof.Machine
end

section
/-! Placed words (log 3, log 9): what the host's numbering reads, and that the next step runs it. -/

namespace Sys2Proof

theorem formatOfNumber_lt {f : Format} {w : Nat} (h : formatOfNumber w = some f) : w < 2 ^ f.width := by
  simpa using List.find?_some h

theorem decodeTableWord_of_format {f : Format} {w : Nat} (nbits : Nat) (h : formatOfNumber w = some f) :
    decodeTableWord nbits w = some (decodeValue f w) := by
  have hdecode : decode ⟨f, w⟩ = .ok (decodeValue f w) :=
    decode_of_wf ((RawWord.wf_iff ⟨f, w⟩).mpr (formatOfNumber_lt h))
  simp only [decodeTableWord, h, hdecode]

theorem formatOfNumber_stim {w : Nat} (h : w < 4) : formatOfNumber w = some .STIM := by
  simp [formatOfNumber, formatsInOrder, Format.width, h]

theorem formatOfNumber_edsel {w : Nat} (hlow : 4 ≤ w) (hhigh : w < 8) : formatOfNumber w = some .EDSEL := by
  simp [formatOfNumber, formatsInOrder, Format.width, Nat.not_lt.mpr hlow, hhigh]

theorem formatOfNumber_dbsel {w : Nat} (hlow : 8 ≤ w) (hhigh : w < 16) : formatOfNumber w = some .DBSEL := by
  have h4 : ¬ w < 4 := by omega
  simp [formatOfNumber, formatsInOrder, Format.width, h4, Nat.not_lt.mpr hlow, hhigh]

/-- R67: a `DBSEL` value whose top bit is set is a DB_EDGE with its other bits as operands. -/
theorem decodeDbsel_of_det {v : BitVec 4} (h : v.getLsbD 3 = true) :
    decodeDbsel v = .edge (v.getLsbD 2) (v.getLsbD 1) (v.getLsbD 0) := by
  simp only [decodeDbsel, h]

namespace Machine

/-! ### A placed stimulus word -/

theorem step_placeStimulus (s : State) (w : StimWord) :
    step (placeStimulus s w) = exec (decodeStim w).toInstr { s with stim := s.stim.tail, ticks := s.ticks + 1 } := rfl

/-- A placed pin level is the level the next tick samples. -/
theorem step_placeStimulus_pinWord (s : State) (pin : Bit) :
    step (placeStimulus s (pinWord pin)) = exec (tickInstr pin) (placeStimulus s (pinWord pin)).advance := by
  rw [← decodeStim_pinWord]
  rfl

/-! ### A placed `EDSEL` or `DBSEL` value -/

/-- R66: the placed value is the vector that the next tick assembles. -/
theorem edsel_placeEdsel (s : State) (v : BitVec 3) :
    edsel ((placeEdsel s v).advance.setPin (v.getLsbD 0)) = v := by
  have hbits : ∀ u : BitVec 3,
      BitVec.ofBool (u.getLsbD 2) ++ BitVec.ofBool (u.getLsbD 1) ++ BitVec.ofBool (u.getLsbD 0) = u := by decide
  exact hbits v

/-- The pin goes to the armed level from the other one, which is an edge (R86, R87). -/
theorem debounceOp_placeDbEdge (s : State) (v : BitVec 4) :
    debounceOp (placeDbEdge s v).advance s.ARM = .edge (v.getLsbD 2) (last (placeDbEdge s v)) true := by
  have hdet : detects (placeDbEdge s v).advance s.ARM = true := by
    simp [detects_eq, placeDbEdge, placeStimulus]
  rw [debounceOp_eq, if_pos hdet]
  simp [placeDbEdge, placeStimulus, last]

theorem withFetchWord_stim (s : State) (nbits : Nat) {w : Nat} (h : w < 4) :
    s.withFetchWord nbits w = placeStimulus s (BitVec.ofNat 2 w) := by
  simp only [State.withFetchWord, placeTableWord, formatOfNumber_stim h]

theorem withFetchWord_edsel (s : State) (nbits : Nat) {w : Nat} (hlow : 4 ≤ w) (hhigh : w < 8) :
    s.withFetchWord nbits w = placeEdsel s (BitVec.ofNat 3 w) := by
  simp only [State.withFetchWord, placeTableWord, formatOfNumber_edsel hlow hhigh]

theorem withFetchWord_dbsel (s : State) (nbits : Nat) {w : Nat} (hlow : 8 ≤ w) (hhigh : w < 16) :
    s.withFetchWord nbits w = placeDbEdge s (BitVec.ofNat 4 w) := by
  simp only [State.withFetchWord, placeTableWord, formatOfNumber_dbsel hlow hhigh]

/-- Settles O7: the number fixes the format, and the format's placement makes the next tick assemble the value. -/
theorem placedWordRunsNext : Obligations.PlacedWordRunsNext := by
  unfold Obligations.PlacedWordRunsNext
  refine ⟨fun s nbits w h => ?_, fun s nbits w hlow hhigh => ?_, fun s nbits w hlow hhigh => ?_⟩
  · rw [withFetchWord_stim s nbits h]
    exact ⟨_, decodeTableWord_of_format nbits (formatOfNumber_stim h), step_placeStimulus s _⟩
  · rw [withFetchWord_edsel s nbits hlow hhigh]
    exact ⟨decodeEdsel (BitVec.ofNat 3 w), (BitVec.ofNat 3 w).getLsbD 0,
      decodeTableWord_of_format nbits (formatOfNumber_edsel hlow hhigh), step_placeStimulus_pinWord _ _,
      congrArg decodeEdsel (edsel_placeEdsel s _)⟩
  · have hdet : (BitVec.ofNat 4 w).getLsbD 3 = true := by
      interval_cases w <;> rfl
    rw [withFetchWord_dbsel s nbits hlow hhigh, decodeTableWord_of_format nbits (formatOfNumber_dbsel hlow hhigh),
      decodeValue, decodeDbsel_of_det hdet]
    exact ⟨_, _, _, s.ARM, rfl, step_placeStimulus_pinWord _ _, debounceOp_placeDbEdge s _⟩

end Machine

end Sys2Proof
end

section
/-! The packed observation word (R81): the flags in its low 13 bits, then the three counters. -/

namespace Sys2Proof.Machine

/-! ### The flags -/

theorem flagBits_EVT (s : State) : (flagBits s).extractLsb' 5 2 = s.EVT := by
  rw [flagBits, BitVec.extractLsb'_append_eq_of_le (by decide), BitVec.extractLsb'_append_eq_of_le (by decide),
    BitVec.extractLsb'_append_eq_of_le (by decide), BitVec.extractLsb'_append_eq_of_le (by decide),
    BitVec.extractLsb'_append_eq_of_le (by decide), BitVec.extractLsb'_append_eq_of_add_le (by decide),
    BitVec.extractLsb'_eq_self]

/-- R81's rows for bits 12 to 0. -/
theorem flagBits_fields (s : State) :
    (flagBits s).getLsbD 0 = s.ARM ∧ (flagBits s).getLsbD 1 = s.TRUN ∧ (flagBits s).getLsbD 2 = s.PIN_Q ∧
      (flagBits s).getLsbD 3 = s.EIFG ∧ (flagBits s).getLsbD 4 = s.TIFG ∧ (flagBits s).extractLsb' 5 2 = s.EVT ∧
      (flagBits s).getLsbD 7 = s.OEN ∧ (flagBits s).getLsbD 8 = s.PLAT ∧ (flagBits s).getLsbD 9 = s.IND ∧
      (flagBits s).getLsbD 10 = s.TOG ∧ (flagBits s).getLsbD 11 = s.PQ ∧ (flagBits s).getLsbD 12 = s.FAULT := by
  rw [flagBits_EVT]
  simp only [flagBits, BitVec.getLsbD_append, BitVec.getLsbD_ofBool]
  simp

/-! ### The fields of the word -/

theorem observationWord_getLsbD_flag (s : State) {i : Nat} (h : i < 13) :
    (observationWord s).getLsbD i = (flagBits s).getLsbD i := by
  rw [observationWord, BitVec.getLsbD_append, if_pos h]

theorem observationWord_extract_flags (s : State) :
    (observationWord s).extractLsb' 5 2 = (flagBits s).extractLsb' 5 2 := by
  rw [observationWord, BitVec.extractLsb'_append_eq_of_add_le (by decide)]

theorem observationWord_TCNT (s : State) :
    (observationWord s).extractLsb' 13 s.cfg.TIMER_W = BitVec.ofNat s.cfg.TIMER_W s.TCNT := by
  rw [observationWord, BitVec.extractLsb'_append_eq_of_le le_rfl, Nat.sub_self,
    BitVec.extractLsb'_append_eq_of_add_le (Nat.zero_add _).le, BitVec.extractLsb'_eq_self]

theorem observationWord_DUTY (s : State) :
    (observationWord s).extractLsb' (13 + s.cfg.TIMER_W) s.cfg.DUTY_W = BitVec.ofNat s.cfg.DUTY_W s.DUTY := by
  rw [observationWord, BitVec.extractLsb'_append_eq_of_le (Nat.le_add_right _ _), Nat.add_sub_cancel_left,
    BitVec.extractLsb'_append_eq_of_le le_rfl, Nat.sub_self,
    BitVec.extractLsb'_append_eq_of_add_le (Nat.zero_add _).le, BitVec.extractLsb'_eq_self]

theorem observationWord_PCNT (s : State) :
    (observationWord s).extractLsb' (13 + s.cfg.TIMER_W + s.cfg.DUTY_W) s.cfg.DUTY_W =
      BitVec.ofNat s.cfg.DUTY_W s.PCNT := by
  have hflags : 13 ≤ 13 + s.cfg.TIMER_W + s.cfg.DUTY_W := by omega
  have htimer : s.cfg.TIMER_W ≤ 13 + s.cfg.TIMER_W + s.cfg.DUTY_W - 13 := by omega
  have hduty : 13 + s.cfg.TIMER_W + s.cfg.DUTY_W - 13 - s.cfg.TIMER_W = s.cfg.DUTY_W := by omega
  rw [observationWord, BitVec.extractLsb'_append_eq_of_le hflags, BitVec.extractLsb'_append_eq_of_le htimer, hduty,
    BitVec.extractLsb'_append_eq_left]

/-- Settles O33: each counter's field is the counter cut to its width, and one that fits is not cut. -/
theorem observationWordFields : Obligations.ObservationWordFields := by
  unfold Obligations.ObservationWordFields
  intro s
  refine ⟨?_, fun h => ?_, fun h => ?_, fun h => ?_⟩
  · simpa only [observationWord_getLsbD_flag, observationWord_extract_flags, Nat.reduceLT] using flagBits_fields s
  · rw [observationWord_TCNT, BitVec.toNat_ofNat, Nat.mod_eq_of_lt h]
  · rw [observationWord_DUTY, BitVec.toNat_ofNat, Nat.mod_eq_of_lt h]
  · rw [observationWord_PCNT, BitVec.toNat_ofNat, Nat.mod_eq_of_lt h]

end Sys2Proof.Machine
end

section
/-! The edge detector and the debounce operations (R86 to R96): what each does when it is run by itself, and when its
decode vector selects it. -/

namespace Sys2Proof.Machine

/-! ### What `EDSEL` selects (R66) -/

/-- R86, R87: a detected edge is a change of the pin towards the armed level. -/
theorem edsel_detects_iff (s : State) :
    (decodeEdsel (edsel s) = .rise ↔ s.ARM = true ∧ s.PIN_Q = false ∧ s.sig.pin = true) ∧
      (decodeEdsel (edsel s) = .fall ↔ s.ARM = false ∧ s.PIN_Q = true ∧ s.sig.pin = false) := by
  rw [decodeEdsel_edsel]
  generalize s.ARM = arm, s.PIN_Q = pinQ, s.sig.pin = pin
  revert arm pinQ pin
  decide

/-- R88: the pin is steady at 0 or 1, or moves away from the armed level. -/
theorem edsel_undetected_iff (s : State) :
    (decodeEdsel (edsel s) = .steady0 s.ARM ↔ s.PIN_Q = false ∧ s.sig.pin = false) ∧
      (decodeEdsel (edsel s) = .steady1 s.ARM ↔ s.PIN_Q = true ∧ s.sig.pin = true) ∧
      (decodeEdsel (edsel s) = .ignoreRise ↔ s.ARM = false ∧ s.PIN_Q = false ∧ s.sig.pin = true) ∧
      (decodeEdsel (edsel s) = .ignoreFall ↔ s.ARM = true ∧ s.PIN_Q = true ∧ s.sig.pin = false) := by
  rw [decodeEdsel_edsel]
  generalize s.ARM = arm, s.PIN_Q = pinQ, s.sig.pin = pin
  revert arm pinQ pin
  decide

/-! ### What `DBSEL` selects (R67) -/

/-- Each debounce operation by the four bits of the vector. -/
theorem dbsel_selects_iff (s : State) :
    ((∃ trun l m, decodeDbsel (dbsel s) = .edge trun l m) ↔ s.sig.det = true) ∧
      ((∃ l m, decodeDbsel (dbsel s) = .idle l m) ↔ s.sig.det = false ∧ s.TRUN = false) ∧
      ((∃ m, decodeDbsel (dbsel s) = .count m) ↔ s.sig.det = false ∧ s.TRUN = true ∧ last s = false) ∧
      (decodeDbsel (dbsel s) = .expireConfirm ↔
        s.sig.det = false ∧ s.TRUN = true ∧ last s = true ∧ matching s = true) ∧
      (decodeDbsel (dbsel s) = .expireReject ↔
        s.sig.det = false ∧ s.TRUN = true ∧ last s = true ∧ matching s = false) := by
  rw [decodeDbsel_dbsel]
  generalize s.sig.det = det, s.TRUN = trun, last s = lastTick, matching s = agrees
  revert det trun lastTick agrees
  decide

theorem dbsel_edge_iff (s : State) :
    (∃ trun l m, decodeDbsel (dbsel s) = .edge trun l m) ↔ s.sig.det = true := by
  obtain ⟨hedge, -⟩ := dbsel_selects_iff s
  exact hedge

theorem dbsel_idle_iff (s : State) :
    (∃ l m, decodeDbsel (dbsel s) = .idle l m) ↔ s.sig.det = false ∧ s.TRUN = false := by
  obtain ⟨-, hidle, -⟩ := dbsel_selects_iff s
  exact hidle

theorem dbsel_count_iff (s : State) :
    (∃ m, decodeDbsel (dbsel s) = .count m) ↔ s.sig.det = false ∧ s.TRUN = true ∧ s.TCNT + 1 < s.cfg.N := by
  obtain ⟨-, -, hcount, -, -⟩ := dbsel_selects_iff s
  simpa [last] using hcount

theorem dbsel_expireConfirm_iff (s : State) :
    decodeDbsel (dbsel s) = .expireConfirm ↔
      s.sig.det = false ∧ s.TRUN = true ∧ s.cfg.N ≤ s.TCNT + 1 ∧ s.sig.pin = s.ARM := by
  obtain ⟨-, -, -, hconfirm, -⟩ := dbsel_selects_iff s
  simpa [last, matching] using hconfirm

theorem dbsel_expireReject_iff (s : State) :
    decodeDbsel (dbsel s) = .expireReject ↔
      s.sig.det = false ∧ s.TRUN = true ∧ s.cfg.N ≤ s.TCNT + 1 ∧ s.sig.pin ≠ s.ARM := by
  obtain ⟨-, -, -, -, hreject⟩ := dbsel_selects_iff s
  simpa [last, matching] using hreject

/-! ### The edge operations -/

/-- Settles O14: the effects are the frame's, the selections the vector's, and DB_EDGE clears the flag at once. -/
theorem detectedEdgeOperations : Obligations.DetectedEdgeOperations := by
  unfold Obligations.DetectedEdgeOperations
  refine ⟨fun s h => ⟨guarded_ready h edRiseEffect, guarded_ready h edFallEffect⟩, edsel_detects_iff, fun s hdet => ?_⟩
  rw [debouncePhase_eq, if_pos hdet]
  rfl

/-- Settles O15: only `det = 1` selects DB_EDGE, and the four verdicts give `det = 0`. -/
theorem undetectedEdgeOperations : Obligations.UndetectedEdgeOperations := by
  unfold Obligations.UndetectedEdgeOperations
  refine ⟨fun s arm h => ?_, edsel_undetected_iff, fun s trun l m hdet hedge => ?_⟩
  · exact ⟨guarded_ready h edSteady0Effect, guarded_ready h edSteady1Effect, guarded_ready h edIgnoreRiseEffect,
      guarded_ready h edIgnoreFallEffect⟩
  · have hset : (edgePhase s).sig.det = true := (dbsel_edge_iff _).mp ⟨trun, l, m, hedge⟩
    exact absurd (hdet.symm.trans hset) (by decide)

/-! ### The debounce operations -/

/-- Settles O16: DB_IDLE leaves the event code alone written. -/
theorem idleOperation : Obligations.IdleOperation := by
  unfold Obligations.IdleOperation
  exact ⟨fun s l m h => guarded_ready h dbIdleEffect, dbsel_idle_iff⟩

theorem dbEdgeEffect_eq (s : State) :
    dbEdgeEffect s =
      { s with EIFG := false, TCNT := 0, TRUN := true, sig := { s.sig with ev := Event.NONE } } := by
  simp [dbEdgeEffect, clearEdgePending, State.setEIFG, State.setTCNT, State.setTRUN, State.setEv]

/-- R93: a count below the end of the window fits `TIMER_W` bits (R7), so it is not cut. -/
theorem count_fits {s : State} (h : Ready s) (hcount : s.TCNT + 1 < s.cfg.N) : s.TCNT + 1 < 2 ^ s.cfg.TIMER_W := by
  obtain ⟨-, -, -, -, -, hTimer, -⟩ := (wellFormedConfig_iff s.cfg).mp h.1
  exact hcount.trans_le hTimer

theorem dbCountEffect_eq {s : State} (h : Ready s) (hcount : s.TCNT + 1 < s.cfg.N) :
    dbCountEffect s = { s with TCNT := s.TCNT + 1, sig := { s.sig with ev := Event.NONE } } := by
  simp [dbCountEffect, State.setTCNT, State.setEv, fitWidth_of_lt (count_fits h hcount)]

theorem dbExpireConfirmEffect_eq (s : State) :
    dbExpireConfirmEffect s =
      { s with TIFG := false, TRUN := false, TCNT := 0, ARM := !s.ARM,
               sig := { s.sig with ev := classify s.cfg s.ARM } } := by
  simp [dbExpireConfirmEffect, stopTimer, takeExpiry, State.setTIFG, State.setTCNT, State.setTRUN, State.setARM,
    State.setEv]

theorem dbExpireRejectEffect_eq (s : State) :
    dbExpireRejectEffect s =
      { s with TIFG := false, TRUN := false, TCNT := 0, sig := { s.sig with ev := Event.NONE } } := by
  simp [dbExpireRejectEffect, stopTimer, takeExpiry, State.setTIFG, State.setTCNT, State.setTRUN, State.setEv]

/-- Settles O17: the restart writes 0, which no width cuts, and `det` alone selects it. -/
theorem edgeRestartsTheTimer : Obligations.EdgeRestartsTheTimer := by
  unfold Obligations.EdgeRestartsTheTimer
  exact ⟨fun s trun l m h => (guarded_ready h dbEdgeEffect).trans (congrArg _ (dbEdgeEffect_eq s)), dbsel_edge_iff⟩

/-- Settles O18: a count below `N` is at most `N - 1`, and `N = 1` leaves none. -/
theorem countOperation : Obligations.CountOperation := by
  unfold Obligations.CountOperation
  refine ⟨fun s m h hcount => ⟨?_, Nat.le_sub_one_of_lt hcount, count_fits h hcount⟩, dbsel_count_iff,
    fun s m hN hsel => ?_⟩
  · exact (guarded_ready h dbCountEffect).trans (congrArg _ (dbCountEffect_eq h hcount))
  · obtain ⟨-, -, hcount⟩ := (dbsel_count_iff s).mp ⟨m, hsel⟩
    omega

/-- Settles O19: the flip and the classification read the edge that was armed. -/
theorem confirmOperation : Obligations.ConfirmOperation := by
  unfold Obligations.ConfirmOperation
  refine ⟨fun s h => ?_, dbsel_expireConfirm_iff⟩
  exact (guarded_ready h dbExpireConfirmEffect).trans (congrArg _ (dbExpireConfirmEffect_eq s))

end Sys2Proof.Machine
end

section
/-! The tick (R85): one operation of each phase, and the register file it leaves as one closed expression. -/

namespace Sys2Proof.Machine

/-! ### One operation of each phase (R85) -/

/-- A selected operation of a phase answers what the phase gives, wherever operations run. -/
theorem exec_selected {s : State} (h : Ready s) :
    exec (decodeEdsel (edsel s)).toInstr s = .next (edgePhase s) ∧
      exec (decodeDbsel (dbsel s)).toInstr s = .next (debouncePhase s) ∧
      exec (decodeDmsel (dmsel s)).toInstr s = .next (dutyPhase s) ∧
      exec (decodePcsel (pcsel s)).toInstr s = .next (counterPhase s) ∧
      exec (decodePwsel (pwsel s)).toInstr s = .next (latchPhase s) ∧
      exec (decodeOutsel (outsel s)).toInstr s = .next (outputPhase s) := by
  rw [exec_edOp, exec_dbOp, exec_dmOp, exec_pcOp, exec_pwOp, exec_outOp]
  simp only [guarded_ready h]
  exact ⟨rfl, rfl, rfl, rfl, rfl, rfl⟩

theorem exec_tickInstr_of_clauses {s : State} (hready : Ready s) (hclauses : brokenClause s = none) (pin : Bit) :
    exec (tickInstr pin) s = .next (tick pin s) := by
  rw [exec_tickInstr, guarded_ready hready, nonResetTick, hclauses]

/-- Settles O30: `MidTick` holds between the phases, so each of them starts from a state in which operations run. -/
theorem tickRunsOneOperationPerPhase : Obligations.TickRunsOneOperationPerPhase := by
  unfold Obligations.TickRunsOneOperationPerPhase
  intro s pin hready hclauses
  obtain ⟨hmid, -, -⟩ := (ready_clauses_iff_midTick s).mp ⟨hready, hclauses⟩
  have h1 := (hmid.setPin pin).edgePhase
  have h2 := h1.debouncePhase
  have h3 := h2.dutyPhase (debouncePhase_ev_ne_reserved _)
  have h4 := h3.counterPhase
  have h5 := h4.latchPhase
  obtain ⟨hed, -⟩ := exec_selected (hmid.setPin pin).ready
  obtain ⟨-, hdb, -⟩ := exec_selected h1.ready
  obtain ⟨-, -, hdm, -⟩ := exec_selected h2.ready
  obtain ⟨-, -, -, hpc, -⟩ := exec_selected h3.ready
  obtain ⟨-, -, -, -, hpw, -⟩ := exec_selected h4.ready
  obtain ⟨-, -, -, -, -, hout⟩ := exec_selected h5.latchTick.ready
  rw [exec_tickInstr_of_clauses hready hclauses, tick_of_no_fault pin hready.2]
  simp only [hed, hdb, hdm, hpc, hpw, hout, andThen_next]

/-! ### What each phase writes -/

/-- R86 to R88: phase 1 gives `det`, and raises the edge flag when it is 1. -/
theorem edgePhase_setPin_eq (s : State) (pin : Bit) (heifg : s.EIFG = false) :
    edgePhase (s.setPin pin) =
      { s with EIFG := detects s pin, sig := ⟨pin, detects s pin, s.sig.ev⟩ } := by
  rw [detects_eq, edgePhase_eq]
  change (if pin ≠ s.PIN_Q ∧ pin = s.ARM then _ else _) = _
  split
  · rename_i h
    rw [decide_eq_true h]
    rfl
  · rename_i h
    rw [decide_eq_false h]
    simp [noEdge, State.setPin, State.setDet, heifg]

/-- R89 to R95: the first two phases write what the debounce operation writes to the start-of-tick registers, and leave
both flags clear. -/
theorem debouncePhase_edgePhase_eq {s : State} (h : MidTick s) (heifg : s.EIFG = false) (pin : Bit) :
    debouncePhase (edgePhase (s.setPin pin)) =
      { s with
        ARM := (dbEffect (debounceOp s pin) s).ARM
        TRUN := (dbEffect (debounceOp s pin) s).TRUN
        TCNT := (dbEffect (debounceOp s pin) s).TCNT
        EIFG := false
        TIFG := false
        sig := ⟨pin, detects s pin, (dbEffect (debounceOp s pin) s).sig.ev⟩ } := by
  have heifg2 : (dbEffect (debounceOp s pin) (edgePhase (s.setPin pin))).EIFG = false :=
    debouncePhase_EIFG (edgePhase_EIFG heifg)
  have htifg2 : (dbEffect (debounceOp s pin) (edgePhase (s.setPin pin))).TIFG = false :=
    (h.setPin pin).edgePhase.debouncePhase.tifg
  change dbEffect (debounceOp s pin) (edgePhase (s.setPin pin)) = _
  rw [dbEffect_frame, heifg2, htifg2, edgePhase_setPin_eq s pin heifg]
  cases debounceOp s pin <;> rfl

/-- R103 to R108: what an event code writes to the duty register, the output enable and the discrete outputs. `PLAT` is 0
already (R47 (g)), so the wrap's second disablement action leaves it. -/
def applyEvent (ev : EventCode) (s : State) : State :=
  { s with
    DUTY := if ev = Event.PRESS then stepOrWrap s.cfg s.DUTY else s.DUTY
    OEN := if ev = Event.PRESS then fits s else s.OEN
    IND := if ev = Event.PRESS then true else if ev = Event.RELEASE then false else s.IND
    TOG := if ev = Event.PRESS then !s.TOG else s.TOG }

theorem applyEvent_none (s : State) : applyEvent Event.NONE s = s := rfl

theorem dutyPhase_registers {s : State} (h : MidTick s) (hev : s.sig.ev ≠ Event.RESERVED) :
    dutyPhase s = applyEvent s.sig.ev s := by
  obtain ⟨-, -, -, hCEILING, -, -, hDuty⟩ := (wellFormedConfig_iff s.cfg).mp h.ready.1
  have hne : Event.RELEASE ≠ Event.PRESS := by decide
  rw [dutyPhase_eq hev, applyEvent]
  by_cases hpress : s.sig.ev = Event.PRESS
  · by_cases hfits : s.DUTY + s.cfg.STEP ≤ s.cfg.CEILING
    · have hcut : fitWidth s.cfg.DUTY_W (s.DUTY + s.cfg.STEP) = s.DUTY + s.cfg.STEP :=
        fitWidth_of_lt ((hfits.trans hCEILING).trans_lt hDuty)
      simp [hpress, hfits, fits, stepOrWrap, dmPressStepEffect, pressOutputs, State.setDUTY, State.setOEN, State.setIND,
        State.setTOG, hcut]
    · simp [hpress, hfits, fits, stepOrWrap, dmPressWrapEffect, pressOutputs, State.setDUTY, State.setOEN,
        State.setPLAT, State.setIND, State.setTOG, h.plat]
  · by_cases hrelease : s.sig.ev = Event.RELEASE
    · simp [hrelease, hne, dmReleaseEffect, State.setIND]
    · simp [hpress, hrelease]

/-- R114, R115: the counter's next value. -/
def nextPCNT (s : State) : Nat := if s.cfg.PERIOD ≤ s.PCNT then 0 else s.PCNT + 1

theorem counterPhase_registers {s : State} (h : MidTick s) : counterPhase s = { s with PCNT := nextPCNT s } := by
  obtain ⟨-, -, -, -, -, -, hDuty⟩ := (wellFormedConfig_iff s.cfg).mp h.ready.1
  rw [counterPhase_eq, nextPCNT]
  split
  · simp [pcWrapEffect, State.setPCNT]
  · have hle : s.PCNT + 1 ≤ s.cfg.PERIOD := Nat.lt_of_not_le ‹_›
    simp [pcIncEffect, State.setPCNT, fitWidth_of_lt (hle.trans_lt hDuty)]

/-- R116 to R118: the latch's next level, from `PCNT'`, `DUTY'` and its level. -/
def nextPQ (pcnt duty : Nat) (pq : Bit) : Bit := if pcnt = duty then false else if pcnt = 0 then true else pq

theorem latchPhase_registers (s : State) : latchPhase s = { s with PQ := nextPQ s.PCNT s.DUTY s.PQ } := by
  rw [latchPhase_eq, nextPQ]
  repeat' split
  all_goals rfl

/-! ### The register file after a tick -/

/-- The state after a tick that samples `pin`, from the start-of-tick registers alone (R11): what the debounce operation
writes to them, what its event does to the outputs, and the waveform. -/
def tickResult (s : State) (pin : Bit) : State :=
  let r := dbEffect (debounceOp s pin) s
  let d := applyEvent r.sig.ev s
  let pq := nextPQ (nextPCNT s) d.DUTY s.PQ
  { d with
    ARM := r.ARM
    TRUN := r.TRUN
    TCNT := r.TCNT
    PIN_Q := pin
    EIFG := false
    TIFG := false
    EVT := r.sig.ev
    PCNT := nextPCNT s
    PQ := pq
    sig := Signals.idle
    pwmOut := d.OEN && pq }

/-- R42 with R47 (g): the line shows the waveform where the output is enabled, and 0 elsewhere. -/
theorem outputPhase_of_plat {s : State} (h : s.PLAT = false) : outputPhase s = s.setPwmOut (s.OEN && s.PQ) := by
  rw [outputPhase_eq, portsOf, h]
  cases s.OEN <;> rfl

theorem tick_eq_tickResult {s : State} (hready : Ready s) (hclauses : brokenClause s = none) (pin : Bit) :
    tick pin s = tickResult s pin := by
  obtain ⟨hmid, heifg, -⟩ := (ready_clauses_iff_midTick s).mp ⟨hready, hclauses⟩
  have h2 := (hmid.setPin pin).edgePhase.debouncePhase
  have hev := debouncePhase_ev_ne_reserved (edgePhase (s.setPin pin))
  have h3 := h2.dutyPhase hev
  have hplat := h3.counterPhase.latchPhase.latchTick.plat
  rw [tick_of_no_fault pin hready.2, outputPhase_of_plat hplat, latchPhase_registers, counterPhase_registers h3,
    dutyPhase_registers h2 hev, debouncePhase_edgePhase_eq hmid heifg]
  rfl

/-- R67, R92 to R96 as Boolean expressions: what the debounce operation of a tick writes, by the edge and the expiry. -/
theorem dbEffect_debounceOp_registers {s : State} (h : MidTick s) (pin : Bit) :
    let expiry : Bit := !detects s pin && s.TRUN && decide (s.TCNT + 1 ≥ s.cfg.N)
    let confirm : Bit := expiry && decide (pin = s.ARM)
    let r := dbEffect (debounceOp s pin) s
    r.ARM = (if confirm then !s.ARM else s.ARM) ∧
      r.TRUN = (detects s pin || (s.TRUN && !expiry)) ∧
      r.TCNT = (if detects s pin || expiry then 0 else if s.TRUN then s.TCNT + 1 else s.TCNT) ∧
      r.sig.ev = (if confirm then classify s.cfg s.ARM else Event.NONE) := by
  intro expiry confirm r
  subst r confirm expiry
  rw [debounceOp_eq]
  cases hdet : detects s pin with
  | true => simp [dbEffect, dbEdgeEffect_eq]
  | false =>
    cases hrun : s.TRUN with
    | false => simp [dbEffect, dbIdleEffect, hrun]
    | true =>
      by_cases hlast : s.cfg.N ≤ s.TCNT + 1
      · by_cases hpin : pin = s.ARM
        · simp [hlast, hpin, dbEffect, dbExpireConfirmEffect_eq]
        · simp [hlast, hpin, dbEffect, dbExpireRejectEffect_eq]
      · simp [hlast, hrun, dbEffect, dbCountEffect_eq h.ready (Nat.lt_of_not_le hlast)]

/-- Settles O31: the closed expression of `tickResult`, with the debounce operation read as R67 selects it. -/
theorem tickComputesEveryRegister : Obligations.TickComputesEveryRegister := by
  unfold Obligations.TickComputesEveryRegister
  intro s pin hready hclauses
  obtain ⟨hmid, -, -⟩ := (ready_clauses_iff_midTick s).mp ⟨hready, hclauses⟩
  obtain ⟨hARM, hTRUN, hTCNT, hev⟩ := dbEffect_debounceOp_registers hmid pin
  rw [exec_tickInstr_of_clauses hready hclauses, tick_eq_tickResult hready hclauses, tickResult, hARM, hTRUN, hTCNT, hev,
    detects_eq]
  simp only [applyEvent, nextPQ, nextPCNT, stepOrWrap, hmid.plat, decide_eq_true_eq]
  rfl

end Sys2Proof.Machine
end

section
/-! Who writes the debounce registers and the event code (R90, R96, R98): in one tick, and in an operation run alone. -/

namespace Sys2Proof.Machine

/-! ### The debounce operations -/

/-- R91 to R95: only the confirm flips the armed edge. -/
theorem dbEffect_ARM {op : DbOp} (h : op ≠ .expireConfirm) (s : State) : (dbEffect op s).ARM = s.ARM := by
  cases op with
  | expireConfirm => exact absurd rfl h
  | edge trun l m => rfl
  | count m => rfl
  | expireReject => rfl
  | idle l m => rfl

/-- R90: every other operation gives NONE. -/
theorem dbEffect_ev {op : DbOp} (h : op ≠ .expireConfirm) (s : State) : (dbEffect op s).sig.ev = Event.NONE := by
  cases op with
  | expireConfirm => exact absurd rfl h
  | edge trun l m => rfl
  | count m => rfl
  | expireReject => rfl
  | idle l m => rfl

/-- R92 to R95: an operation that writes `TRUN` or `TCNT` is not DB_IDLE. -/
theorem dbEffect_timer {op : DbOp} {s : State}
    (h : (dbEffect op s).TRUN ≠ s.TRUN ∨ (dbEffect op s).TCNT ≠ s.TCNT) (l m : Bit) : op ≠ .idle l m := by
  rintro rfl
  exact h.elim (fun hTRUN => hTRUN rfl) (fun hTCNT => hTCNT rfl)

/-! ### A tick that runs -/

/-- A tick instruction raises a broken clause, with no register written, or answers the state of `tickResult`. -/
theorem exec_tickInstr_cases {s t : State} {pin : Bit} (h : exec (tickInstr pin) s = .next t) :
    (∃ k, t = s.raise (.invariantBroken k)) ∨ t = tickResult s pin := by
  obtain ⟨hready, ⟨k, -, rfl⟩ | ⟨hclauses, rfl⟩⟩ := exec_tickInstr_next h
  · exact .inl ⟨k, rfl⟩
  · exact .inr (tick_eq_tickResult hready hclauses pin)

/-- Settles O21: every debounce operation but the confirm gives NONE, and `EVT` is the code of the tick's operation. -/
theorem onlyConfirmEmits : Obligations.OnlyConfirmEmits := by
  unfold Obligations.OnlyConfirmEmits
  refine ⟨fun op s t h hev => ?_, debouncePhase_ev_ne_reserved, fun s t pin h hfault hev => ?_⟩
  · obtain ⟨-, rfl⟩ := guarded_next (exec_dbOp op s ▸ h)
    exact not_imp_comm.mp (dbEffect_ev · s) hev
  · obtain ⟨k, rfl⟩ | rfl := exec_tickInstr_cases h
    · cases hfault
    · exact not_imp_comm.mp (dbEffect_ev · s) hev

/-- A state in which the three registers stand as before needs no writer of them. -/
theorem debounceRegisters_unwritten {s t u : State} {P Q : Prop} (ht : t = u) (hARM : u.ARM = s.ARM)
    (hTRUN : u.TRUN = s.TRUN) (hTCNT : u.TCNT = s.TCNT) :
    (t.ARM ≠ s.ARM → P) ∧ (t.TRUN ≠ s.TRUN ∨ t.TCNT ≠ s.TCNT → Q) := by
  subst ht
  exact ⟨fun h => absurd hARM h, fun h => h.elim (absurd hTRUN) (absurd hTCNT)⟩

/-- Settles O43, family by family: the frame of every other family leaves the three registers. -/
theorem debounceRegisterWriters : Obligations.DebounceRegisterWriters := by
  unfold Obligations.DebounceRegisterWriters
  intro i s t h
  obtain ⟨hed, -, hdm, hpc, hpw, hout⟩ := internalOperationFrames
  cases instrFamily i with
  | rst pin => exact ⟨fun _ => .inr (.inl ⟨pin, rfl⟩), fun _ => .inr (.inl ⟨pin, rfl⟩)⟩
  | tick pin =>
    obtain ⟨k, rfl⟩ | rfl := exec_tickInstr_cases h
    · exact debounceRegisters_unwritten rfl rfl rfl rfl
    · exact ⟨fun hARM => .inr (.inr ⟨pin, rfl, not_imp_comm.mp (dbEffect_ARM · s) hARM⟩),
        fun htimer => .inr (.inr ⟨pin, rfl, dbEffect_timer htimer⟩)⟩
  | db op =>
    obtain ⟨-, rfl⟩ := guarded_next (exec_dbOp op s ▸ h)
    refine ⟨fun hARM => .inl ?_, fun htimer => .inl ⟨op, rfl, dbEffect_timer htimer⟩⟩
    rw [not_imp_comm.mp (dbEffect_ARM · s) hARM]
    rfl
  | ed op => exact debounceRegisters_unwritten (hed op s t h) rfl rfl rfl
  | dm op => exact debounceRegisters_unwritten (hdm op s t h).1 rfl rfl rfl
  | pc op => exact debounceRegisters_unwritten (hpc op s t h) rfl rfl rfl
  | pw op => exact debounceRegisters_unwritten (hpw op s t h) rfl rfl rfl
  | out op => exact debounceRegisters_unwritten (hout op s t h) rfl rfl rfl

end Sys2Proof.Machine
end

section
/-! Runs of sampled levels from a state of the invariant (R93 to R101): what one tick does to the debounce registers,
and the runs in which no window is confirmed. -/

namespace Sys2Proof.Machine

/-! ### The tick of a run -/

/-- The state after a tick at which the environment presents the level `pin`. -/
def pinTick (s : State) (pin : Bit) : State := withEnvironment s.stim (s.ticks + 1) (tickResult s pin)

theorem tickWith_pinWord_of_inv {s : State} (h : Inv s) (pin : Bit) :
    tickWith (pinWord pin) s = .next (pinTick s pin) := by
  have hticks := h.withEnvironment s.stim (s.ticks + 1)
  have htick := exec_tickInstr_of_clauses hticks.ready hticks.clauses pin
  rw [tick_withEnvironment, tick_eq_tickResult h.ready h.clauses] at htick
  rw [tickWith_pinWord]
  exact htick

theorem pinTick_inv {s : State} (h : Inv s) (pin : Bit) : Inv (pinTick s pin) :=
  step_inv (h.present (pinWord pin)) (tickWith_pinWord_of_inv h pin)

theorem pinTick_ARM (s : State) (pin : Bit) : (pinTick s pin).ARM = (dbEffect (debounceOp s pin) s).ARM := rfl
theorem pinTick_TRUN (s : State) (pin : Bit) : (pinTick s pin).TRUN = (dbEffect (debounceOp s pin) s).TRUN := rfl
theorem pinTick_TCNT (s : State) (pin : Bit) : (pinTick s pin).TCNT = (dbEffect (debounceOp s pin) s).TCNT := rfl
theorem pinTick_EVT (s : State) (pin : Bit) : (pinTick s pin).EVT = (dbEffect (debounceOp s pin) s).sig.ev := rfl
theorem pinTick_PIN_Q (s : State) (pin : Bit) : (pinTick s pin).PIN_Q = pin := rfl
theorem pinTick_cfg (s : State) (pin : Bit) : (pinTick s pin).cfg = s.cfg := rfl

/-! ### What the tick does to the debounce registers, by its debounce operation -/

/-- The fields that no rejected or unfinished window touches stand as in `s`; the others stand as in `t`. -/
def withTimerAndWaveform (s t : State) : State :=
  { s with TRUN := t.TRUN, TCNT := t.TCNT, PIN_Q := t.PIN_Q, EVT := t.EVT, PCNT := t.PCNT, PQ := t.PQ,
           pwmOut := t.pwmOut, ticks := t.ticks }

/-- `t` differs from `s` in the timer, the last sample, the event code, the waveform and the tick number alone. -/
def SameButTimerAndWaveform (s t : State) : Prop := t = withTimerAndWaveform s t

theorem SameButTimerAndWaveform.trans {s t u : State} (hst : SameButTimerAndWaveform s t)
    (htu : SameButTimerAndWaveform t u) : SameButTimerAndWaveform s u :=
  calc u = withTimerAndWaveform t u := htu
    _ = withTimerAndWaveform (withTimerAndWaveform s t) u := congrArg (fun v => withTimerAndWaveform v u) hst
    _ = withTimerAndWaveform s u := rfl

theorem SameButTimerAndWaveform.registers {s t : State} (h : SameButTimerAndWaveform s t) :
    t.ARM = s.ARM ∧ t.DUTY = s.DUTY ∧ t.OEN = s.OEN ∧ t.PLAT = s.PLAT ∧ t.IND = s.IND ∧ t.TOG = s.TOG := by
  have ht : t = withTimerAndWaveform s t := h
  rw [ht]
  exact ⟨rfl, rfl, rfl, rfl, rfl, rfl⟩

/-- R91 to R93, R95, R103: a tick that confirms nothing emits nothing and leaves the armed edge and the outputs. -/
theorem pinTick_unconfirmed {s : State} {pin : Bit} (h : Inv s) (hop : debounceOp s pin ≠ .expireConfirm) :
    SameButTimerAndWaveform s (pinTick s pin) ∧ (pinTick s pin).EVT = Event.NONE := by
  obtain ⟨-, -, ⟨heifg, htifg⟩, -⟩ := (brokenClause_none_iff s).mp h.clauses
  have hARM := dbEffect_ARM hop s
  have hev := dbEffect_ev hop s
  refine ⟨?_, hev⟩
  simp [SameButTimerAndWaveform, withTimerAndWaveform, pinTick, withEnvironment, tickResult, hARM, hev,
    applyEvent_none, heifg, htifg, h.idle]

/-- R94, R96: the confirm stops the timer, flips the armed edge and emits by the edge that was armed. -/
theorem pinTick_confirmed {s : State} {pin : Bit} (hop : debounceOp s pin = .expireConfirm) :
    (pinTick s pin).TRUN = false ∧ (pinTick s pin).TCNT = 0 ∧ (pinTick s pin).ARM = !s.ARM ∧
      (pinTick s pin).EVT = classify s.cfg s.ARM := by
  rw [pinTick_TRUN, pinTick_TCNT, pinTick_ARM, pinTick_EVT, hop, dbEffect, dbExpireConfirmEffect_eq]
  exact ⟨rfl, rfl, rfl, rfl⟩

/-- R67: the level that a rejecting tick samples is not the armed one. -/
theorem debounceOp_reject_pin {s : State} {pin : Bit} (hop : debounceOp s pin = .expireReject) : pin = !s.ARM := by
  obtain ⟨-, -, -, hpin⟩ := (dbsel_expireReject_iff (edgePhase (s.setPin pin))).mp hop
  rw [edgePhase, edEffect_frame] at hpin
  exact Bool.eq_not_of_ne hpin

/-- R95: the reject stops the timer, and the last sample is then the level that is not armed. -/
theorem pinTick_rejected {s : State} {pin : Bit} (hop : debounceOp s pin = .expireReject) :
    (pinTick s pin).TRUN = false ∧ (pinTick s pin).TCNT = 0 ∧ (pinTick s pin).PIN_Q = !s.ARM := by
  rw [pinTick_TRUN, pinTick_TCNT, pinTick_PIN_Q, hop, dbEffect, dbExpireRejectEffect_eq]
  exact ⟨rfl, rfl, debounceOp_reject_pin hop⟩

/-- R92: a detected edge restarts the window. -/
theorem pinTick_edge {s : State} {pin : Bit} (hdet : detects s pin = true) :
    debounceOp s pin ≠ .expireConfirm ∧ (pinTick s pin).TRUN = true ∧ (pinTick s pin).TCNT = 0 := by
  rw [pinTick_TRUN, pinTick_TCNT, debounceOp_eq, if_pos hdet, dbEffect, dbEdgeEffect_eq]
  exact ⟨by simp, rfl, rfl⟩

/-- R93: before its last tick a quiet window counts. -/
theorem pinTick_count {s : State} {pin : Bit} (h : Ready s) (hdet : detects s pin = false) (hrun : s.TRUN = true)
    (hcount : s.TCNT + 1 < s.cfg.N) :
    debounceOp s pin ≠ .expireConfirm ∧ (pinTick s pin).TRUN = true ∧ (pinTick s pin).TCNT = s.TCNT + 1 := by
  have hop : debounceOp s pin = .count (decide (pin = s.ARM)) := by
    simp [debounceOp_eq, hdet, hrun, Nat.not_le.mpr hcount]
  rw [pinTick_TRUN, pinTick_TCNT, hop, dbEffect, dbCountEffect_eq h hcount]
  exact ⟨by simp, hrun, rfl⟩

/-- R94, R95: at its last tick a quiet window ends, confirmed or rejected by the sampled level. -/
theorem debounceOp_last {s : State} {pin : Bit} (hdet : detects s pin = false) (hrun : s.TRUN = true)
    (hlast : s.cfg.N ≤ s.TCNT + 1) :
    debounceOp s pin = if pin = s.ARM then .expireConfirm else .expireReject := by
  simp [debounceOp_eq, hdet, hrun, hlast]

/-- R86, R87, R95: after a reject the pin is at the level that is not armed, so the next armed transition is an edge. -/
theorem pinTick_rejected_detects {s : State} {pin : Bit} (h : Inv s) (hop : debounceOp s pin = .expireReject) :
    (pinTick s pin).ARM = s.ARM ∧ detects (pinTick s pin) s.ARM = true := by
  obtain ⟨-, -, hPIN_Q⟩ := pinTick_rejected hop
  obtain ⟨hsame, -⟩ := pinTick_unconfirmed h (hop.trans_ne (by simp))
  obtain ⟨hARM, -⟩ := hsame.registers
  refine ⟨hARM, ?_⟩
  rw [detects_eq, hPIN_Q, hARM]
  simp

/-- Settles O20: the rejecting tick is `pinTick`, which leaves `ARM` and samples the other level. -/
theorem rejectOperation : Obligations.RejectOperation := by
  unfold Obligations.RejectOperation
  refine ⟨fun s h => ?_, dbsel_expireReject_iff, fun s t pin h hop ht => ?_⟩
  · exact (guarded_ready h dbExpireRejectEffect).trans (congrArg _ (dbExpireRejectEffect_eq s))
  · obtain rfl : pinTick s pin = t := by simpa [tickWith_pinWord_of_inv h] using ht
    obtain ⟨-, hEVT⟩ := pinTick_unconfirmed h (hop.trans_ne (by simp))
    obtain ⟨hARM, hdet⟩ := pinTick_rejected_detects h hop
    exact ⟨hARM, hEVT, hARM.symm ▸ hdet⟩

/-! ### Runs in which the armed edge never flips (R101) -/

/-- R101: with no confirm in the run, each tick changes the timer, the sample and the waveform alone. -/
theorem unflipped_run {pins : List Bit} {s t : State} (h : Inv s) (hrun : runPins pins s = .next t)
    (harm : ∀ u ∈ pinTable pins s, u.ARM = s.ARM) :
    Inv t ∧ eventsOf (pinTable pins s) = [] ∧ SameButTimerAndWaveform s t := by
  induction pins generalizing s with
  | nil =>
    cases hrun
    exact ⟨h, rfl, rfl⟩
  | cons pin pins ih =>
    have htick := tickWith_pinWord_of_inv h pin
    rw [runPins_cons pins htick] at hrun
    rw [pinTable_cons pins htick, List.forall_mem_cons] at harm
    obtain ⟨hARM, hrest⟩ := harm
    have hop : debounceOp s pin ≠ .expireConfirm := fun hop => by
      obtain ⟨-, -, hflip, -⟩ := pinTick_confirmed hop
      exact Bool.not_ne_self s.ARM (hflip.symm.trans hARM)
    obtain ⟨hsame, hEVT⟩ := pinTick_unconfirmed h hop
    obtain ⟨hinv, hevents, hsame'⟩ := ih (pinTick_inv h pin) hrun (fun u hu => (hrest u hu).trans hARM.symm)
    rw [pinTable_cons pins htick, eventsOf_cons, if_pos hEVT]
    exact ⟨hinv, hevents, hsame.trans hsame'⟩

/-- Settles O52: the five outputs are among the fields such a run leaves, and R47 (b) holds at its end. -/
theorem rejectedWindowsKeepDutyOenPlatIndTog : Obligations.RejectedWindowsKeepDutyOenPlatIndTog := by
  unfold Obligations.RejectedWindowsKeepDutyOenPlatIndTog
  intro s t pins h hrun harm
  obtain ⟨hinv, hevents, hsame⟩ := unflipped_run h hrun harm
  obtain ⟨-, hstopped, -⟩ := (brokenClause_none_iff t).mp hinv.clauses
  obtain ⟨-, hDUTY, hOEN, hPLAT, hIND, hTOG⟩ := hsame.registers
  exact ⟨hevents, hDUTY, hOEN, hPLAT, hIND, hTOG, hstopped⟩

/-- Settles O55: the run and the rejecting tick leave all but the timer, the sample and the waveform, and the reject
brings the timer back to rest. -/
theorem rejectedBurstDiffersOnlyInPinAndWaveform : Obligations.RejectedBurstDiffersOnlyInPinAndWaveform := by
  unfold Obligations.RejectedBurstDiffersOnlyInPinAndWaveform
  intro s u t pins pin h hidle hrun harm hop ht
  obtain ⟨hinv, -, hburst⟩ := unflipped_run h hrun harm
  obtain rfl : pinTick u pin = t := by simpa [tickWith_pinWord_of_inv hinv] using ht
  obtain ⟨hlast, hEVT⟩ := pinTick_unconfirmed hinv (hop.trans_ne (by simp))
  obtain ⟨hTRUN, hTCNT, hPIN_Q⟩ := pinTick_rejected hop
  obtain ⟨-, hdet⟩ := pinTick_rejected_detects hinv hop
  obtain ⟨-, hstopped, -⟩ := (brokenClause_none_iff s).mp h.clauses
  obtain ⟨hARM, -⟩ := hburst.registers
  have hsame := hburst.trans hlast
  rw [SameButTimerAndWaveform, withTimerAndWaveform, hTRUN, hTCNT, hPIN_Q, hEVT, hARM, ← hidle, ← hstopped hidle] at hsame
  exact ⟨hsame, hARM ▸ hdet⟩

end Sys2Proof.Machine
end

section
/-! Windows and events over many ticks (R93 to R100, R157), by induction on the sampled levels. -/

namespace Sys2Proof.Machine

/-! ### Quiet windows and bounces -/

/-- R93 to R95, R157: `pins.length` ticks before its end a quiet window counts them, and the next one decides. -/
theorem quietWindow {pins : List Bit} {pin : Bit} {s : State} (h : Inv s) (hrun : s.TRUN = true)
    (hleft : s.TCNT + pins.length + 1 = s.cfg.N) (hquiet : NoDetect (pins ++ [pin]) s) :
    (∀ k, k < pins.length → ∃ u, (pinTable pins s)[k]? = some u ∧
      u.TRUN = true ∧ u.TCNT = s.TCNT + k + 1 ∧ u.ARM = s.ARM ∧ u.EVT = Event.NONE) ∧
    ∃ t, runPins (pins ++ [pin]) s = .next t ∧ t.TRUN = false ∧ t.TCNT = 0 ∧
      t.ARM = (if pin = s.ARM then !s.ARM else s.ARM) ∧
      t.EVT = (if pin = s.ARM then classify s.cfg s.ARM else Event.NONE) := by
  induction pins generalizing s with
  | nil =>
    obtain ⟨hdet, -⟩ := hquiet
    have hlast := debounceOp_last hdet hrun hleft.ge
    refine ⟨fun k hk => absurd hk (Nat.not_lt_zero k), pinTick s pin,
      runPins_cons [] (tickWith_pinWord_of_inv h pin), ?_⟩
    by_cases hpin : pin = s.ARM
    · rw [if_pos hpin] at hlast ⊢
      rw [if_pos hpin]
      exact pinTick_confirmed hlast
    · rw [if_neg hpin] at hlast ⊢
      rw [if_neg hpin]
      obtain ⟨hTRUN, hTCNT, -⟩ := pinTick_rejected hlast
      obtain ⟨hsame, hEVT⟩ := pinTick_unconfirmed h (hlast.trans_ne (by simp))
      exact ⟨hTRUN, hTCNT, hsame.registers.1, hEVT⟩
  | cons p pins ih =>
    obtain ⟨hdet, hrest⟩ := hquiet
    rw [List.length_cons] at hleft
    have hcount : s.TCNT + 1 < s.cfg.N := by omega
    obtain ⟨hop, hTRUN, hTCNT⟩ := pinTick_count h.ready hdet hrun hcount
    obtain ⟨hsame, hEVT⟩ := pinTick_unconfirmed h hop
    obtain ⟨hARM, -⟩ := hsame.registers
    have htick := tickWith_pinWord_of_inv h p
    have hleft' : (pinTick s p).TCNT + pins.length + 1 = (pinTick s p).cfg.N := by
      rw [hTCNT, pinTick_cfg]
      omega
    obtain ⟨hwindow, hend⟩ := ih (pinTick_inv h p) hTRUN hleft' (hrest _ htick)
    rw [hARM, hTCNT] at hwindow
    rw [hARM, pinTick_cfg, ← runPins_cons (pins ++ [pin]) htick] at hend
    refine ⟨fun k hk => ?_, hend⟩
    rw [pinTable_cons pins htick]
    cases k with
    | zero => exact ⟨_, rfl, hTRUN, hTCNT, hARM, hEVT⟩
    | succ k =>
      obtain ⟨u, hu, huTRUN, huTCNT, huARM, huEVT⟩ := hwindow k (Nat.lt_of_succ_lt_succ hk)
      exact ⟨u, hu, huTRUN, by omega, huARM, huEVT⟩

/-- Settles O47: the window just after an edge, with all its ticks left. -/
theorem quietWindowExpiresAtTheDeadline : Obligations.QuietWindowExpiresAtTheDeadline := by
  unfold Obligations.QuietWindowExpiresAtTheDeadline
  intro s pins pin h hrun hTCNT hlength hquiet
  obtain ⟨hwindow, hend⟩ := quietWindow h hrun (by omega) hquiet
  rw [hTCNT] at hwindow
  simp only [Nat.zero_add] at hwindow
  exact ⟨hwindow, hend⟩

/-- R92, R93: below `N` ticks since the last edge, a tick restarts the window or counts. -/
theorem pinTick_withinWindow {s : State} {pin : Bit} (h : Inv s) (hrun : s.TRUN = true)
    (hage : (if detects s pin then 0 else s.TCNT + 1) < s.cfg.N) :
    (pinTick s pin).TRUN = true ∧ (pinTick s pin).TCNT = (if detects s pin then 0 else s.TCNT + 1) ∧
      (pinTick s pin).EVT = Event.NONE ∧ SameButTimerAndWaveform s (pinTick s pin) := by
  cases hdet : detects s pin with
  | true =>
    obtain ⟨hop, hTRUN, hTCNT⟩ := pinTick_edge hdet
    obtain ⟨hsame, hEVT⟩ := pinTick_unconfirmed h hop
    exact ⟨hTRUN, hTCNT, hEVT, hsame⟩
  | false =>
    rw [hdet] at hage
    obtain ⟨hop, hTRUN, hTCNT⟩ := pinTick_count h.ready hdet hrun hage
    obtain ⟨hsame, hEVT⟩ := pinTick_unconfirmed h hop
    exact ⟨hTRUN, hTCNT, hEVT, hsame⟩

/-- R99: no window of such a run ends. -/
theorem bouncing_run {pins : List Bit} {s : State} (h : Inv s) (hrun : s.TRUN = true)
    (hbounce : EdgeWithin s.cfg.N s.TCNT pins s) :
    eventsOf (pinTable pins s) = [] ∧ (pinTable pins s).length = pins.length ∧
      (pinTable pins s).map State.TCNT = edgeAges s.TCNT pins s ∧
      ∀ u ∈ pinTable pins s, u.TRUN = true ∧ SameButTimerAndWaveform s u := by
  induction pins generalizing s with
  | nil => exact ⟨rfl, rfl, rfl, fun u hu => absurd hu List.not_mem_nil⟩
  | cons pin pins ih =>
    obtain ⟨hage, hrest⟩ := hbounce
    have htick := tickWith_pinWord_of_inv h pin
    obtain ⟨hTRUN, hTCNT, hEVT, hsame⟩ := pinTick_withinWindow h hrun hage
    have hbounce' := hrest _ htick
    rw [← hTCNT] at hbounce'
    obtain ⟨hevents, hlength, hages, hall⟩ := ih (pinTick_inv h pin) hTRUN hbounce'
    rw [pinTable_cons pins htick, edgeAges_cons s.TCNT pins htick, eventsOf_cons, if_pos hEVT, List.length_cons,
      List.length_cons, List.map_cons, hlength, hages, ← hTCNT]
    refine ⟨hevents, rfl, rfl, List.forall_mem_cons.mpr ⟨⟨hTRUN, hsame⟩, fun u hu => ?_⟩⟩
    obtain ⟨huTRUN, husame⟩ := hall u hu
    exact ⟨huTRUN, hsame.trans husame⟩

/-- Settles O48: what such a run keeps includes the armed edge and the outputs. -/
theorem bouncingEmitsNothing : Obligations.BouncingEmitsNothing := by
  unfold Obligations.BouncingEmitsNothing
  intro s pins h hrun hbounce
  obtain ⟨hevents, hlength, hages, hall⟩ := bouncing_run h hrun hbounce
  refine ⟨hevents, hlength, hages, fun u hu => ?_⟩
  obtain ⟨hTRUN, hsame⟩ := hall u hu
  obtain ⟨hARM, hDUTY, hOEN, -, hIND, hTOG⟩ := hsame.registers
  exact ⟨hTRUN, hARM, hDUTY, hOEN, hIND, hTOG⟩

/-! ### Alternation (R100) -/

/-- The `k`-th event of a run that starts with the edge `arm` armed (R100). -/
def alternatingEvent (c : Config) (arm : Bit) (k : Nat) : EventCode :=
  if c.EMIT_RELEASE then (if decide (k % 2 = 0) = decide (arm = c.ACT) then Event.PRESS else Event.RELEASE)
  else Event.PRESS

/-- R96: an emitting confirm emits the first event of the alternation. -/
theorem classify_eq_alternatingEvent {c : Config} {arm : Bit} (h : classify c arm ≠ Event.NONE) :
    classify c arm = alternatingEvent c arm 0 := by
  cases hemit : c.EMIT_RELEASE with
  | true => by_cases harm : arm = c.ACT <;> simp [classify, alternatingEvent, hemit, harm]
  | false =>
    have harm : arm = c.ACT := by
      by_contra harm
      exact h (by simp [classify, hemit, harm])
    simp [classify, alternatingEvent, hemit, harm]

/-- Each event leaves the other edge armed: one more event and one more flip cancel. -/
theorem alternatingEvent_succ (c : Config) (arm : Bit) (k : Nat) :
    alternatingEvent c arm (k + 1) = alternatingEvent c (!arm) k := by
  have hparity : decide ((k + 1) % 2 = 0) = !decide (k % 2 = 0) := by
    rw [← decide_not, decide_eq_decide]
    omega
  have hedge : decide ((!arm) = c.ACT) = !decide (arm = c.ACT) := by cases arm <;> cases c.ACT <;> rfl
  have hpress : (decide ((k + 1) % 2 = 0) = decide (arm = c.ACT)) = (decide (k % 2 = 0) = decide ((!arm) = c.ACT)) := by
    rw [hparity, hedge, Bool.not_eq_eq_eq_not]
  simp only [alternatingEvent, hpress]

/-- R96: a confirm is silent only with `EMIT_RELEASE = 0`, where every event is a PRESS. -/
theorem alternatingEvent_of_silent {c : Config} {arm : Bit} (h : classify c arm = Event.NONE) (arm' : Bit) (k : Nat) :
    alternatingEvent c arm' k = Event.PRESS := by
  have hsilent : c.EMIT_RELEASE = false := by
    by_contra hemit
    revert h
    simp only [classify, Bool.eq_true_of_not_eq_false hemit]
    split <;> decide
  simp [alternatingEvent, hsilent]

/-- Settles O49, by induction on the levels: only a confirm emits, and it flips the armed edge whether it emits or not. -/
theorem eventsAlternate : Obligations.EventsAlternate := by
  unfold Obligations.EventsAlternate
  intro s pins
  induction pins generalizing s with
  | nil =>
    intro k e h he
    cases he
  | cons pin pins ih =>
    intro k e h he
    change e = alternatingEvent s.cfg s.ARM k
    replace ih : ∀ k, (eventsOf (pinTable pins (pinTick s pin)))[k]? = some e →
        e = alternatingEvent s.cfg (pinTick s pin).ARM k := fun k => ih (pinTick s pin) k e (pinTick_inv h pin)
    rw [pinTable_cons pins (tickWith_pinWord_of_inv h pin), eventsOf_cons] at he
    by_cases hop : debounceOp s pin = .expireConfirm
    · obtain ⟨-, -, hARM, hEVT⟩ := pinTick_confirmed hop
      rw [hEVT] at he
      rw [hARM] at ih
      by_cases hsilent : classify s.cfg s.ARM = Event.NONE
      · rw [if_pos hsilent] at he
        rw [ih k he, alternatingEvent_of_silent hsilent, alternatingEvent_of_silent hsilent]
      · rw [if_neg hsilent] at he
        cases k with
        | zero =>
          obtain rfl : classify s.cfg s.ARM = e := Option.some.inj he
          exact classify_eq_alternatingEvent hsilent
        | succ k => rw [alternatingEvent_succ, ← ih k he]
    · obtain ⟨hsame, hEVT⟩ := pinTick_unconfirmed h hop
      obtain ⟨hARM, -⟩ := hsame.registers
      rw [if_pos hEVT] at he
      rw [ih k he, hARM]

end Sys2Proof.Machine
end

section
/-! The duty operations (R103 to R109): what each does when it is run by itself, and when its decode vector selects it. -/

namespace Sys2Proof.Machine

/-! ### What `DMSEL` selects (R68) -/

/-- Each duty operation by the event code and `fits`. -/
theorem dmsel_selects_iff (s : State) :
    ((∃ f, decodeDmsel (dmsel s) = .hold f) ↔ s.sig.ev = 0b00#2) ∧
      (decodeDmsel (dmsel s) = .pressStep ↔ s.sig.ev = 0b01#2 ∧ fits s = true) ∧
      (decodeDmsel (dmsel s) = .pressWrap ↔ s.sig.ev = 0b01#2 ∧ fits s = false) ∧
      ((∃ f, decodeDmsel (dmsel s) = .release f) ↔ s.sig.ev = 0b10#2) ∧
      ((∃ f, decodeDmsel (dmsel s) = .reserved f) ↔ s.sig.ev = 0b11#2) := by
  rw [decodeDmsel_dmsel]
  generalize s.sig.ev = ev, fits s = fitting
  revert ev fitting
  decide

theorem dmsel_hold_iff (s : State) : (∃ f, decodeDmsel (dmsel s) = .hold f) ↔ s.sig.ev = 0b00#2 := by
  obtain ⟨hhold, -⟩ := dmsel_selects_iff s
  exact hhold

theorem dmsel_pressStep_iff (s : State) :
    decodeDmsel (dmsel s) = .pressStep ↔ s.sig.ev = 0b01#2 ∧ s.DUTY + s.cfg.STEP ≤ s.cfg.CEILING := by
  obtain ⟨-, hstep, -⟩ := dmsel_selects_iff s
  simpa [fits] using hstep

theorem dmsel_pressWrap_iff (s : State) :
    decodeDmsel (dmsel s) = .pressWrap ↔ s.sig.ev = 0b01#2 ∧ s.cfg.CEILING < s.DUTY + s.cfg.STEP := by
  obtain ⟨-, -, hwrap, -⟩ := dmsel_selects_iff s
  simpa [fits] using hwrap

theorem dmsel_release_iff (s : State) : (∃ f, decodeDmsel (dmsel s) = .release f) ↔ s.sig.ev = 0b10#2 := by
  obtain ⟨-, -, -, hrelease, -⟩ := dmsel_selects_iff s
  exact hrelease

theorem dmsel_reserved_iff (s : State) : (∃ f, decodeDmsel (dmsel s) = .reserved f) ↔ s.sig.ev = 0b11#2 := by
  obtain ⟨-, -, -, -, hreserved⟩ := dmsel_selects_iff s
  exact hreserved

/-! ### What a tick hands to the duty phase -/

/-- R96: without release events a transition is classified as a PRESS or not at all. -/
theorem classify_ne_release {c : Config} (h : c.EMIT_RELEASE = false) (a : Bit) : classify c a ≠ Event.RELEASE := by
  simp only [classify, h]
  split <;> decide

theorem dbEffect_ev_ne_release {s : State} (h : s.cfg.EMIT_RELEASE = false) (op : DbOp) :
    (dbEffect op s).sig.ev ≠ Event.RELEASE := by
  by_cases hop : op = .expireConfirm
  · subst hop
    exact classify_ne_release h s.ARM
  · rw [dbEffect_ev hop]
    decide

theorem debouncePhase_ev_ne_release {s : State} (h : s.cfg.EMIT_RELEASE = false) (pin : Bit) :
    (debouncePhase (edgePhase (s.setPin pin))).sig.ev ≠ Event.RELEASE := by
  have hcfg : (edgePhase (s.setPin pin)).cfg = s.cfg := edEffect_cfg _ _
  exact dbEffect_ev_ne_release (hcfg ▸ h) _

/-! ### What each operation writes -/

/-- R106: a sum at most `CEILING` is at most `PERIOD`, so it fits `DUTY_W` bits (R7) and is not cut. -/
theorem stepped_duty_bounds {s : State} (h : Ready s) (hfits : s.DUTY + s.cfg.STEP ≤ s.cfg.CEILING) :
    s.DUTY + s.cfg.STEP ≤ s.cfg.PERIOD ∧ s.DUTY + s.cfg.STEP < 2 ^ s.cfg.DUTY_W := by
  obtain ⟨-, -, -, hCEILING, -, -, hDuty⟩ := (wellFormedConfig_iff s.cfg).mp h.1
  have hle := hfits.trans hCEILING
  exact ⟨hle, hle.trans_lt hDuty⟩

theorem dmPressStepEffect_eq {s : State} (h : Ready s) (hfits : s.DUTY + s.cfg.STEP ≤ s.cfg.CEILING) :
    dmPressStepEffect s = { s with DUTY := s.DUTY + s.cfg.STEP, OEN := true, IND := true, TOG := !s.TOG } := by
  obtain ⟨-, hwidth⟩ := stepped_duty_bounds h hfits
  simp [dmPressStepEffect, pressOutputs, State.setDUTY, State.setOEN, State.setIND, State.setTOG, fitWidth_of_lt hwidth]

theorem dmPressWrapEffect_eq (s : State) :
    dmPressWrapEffect s = { s with DUTY := 0, OEN := false, PLAT := false, IND := true, TOG := !s.TOG } := by
  simp [dmPressWrapEffect, pressOutputs, State.setDUTY, State.setOEN, State.setPLAT, State.setIND, State.setTOG]

/-- R103, R106, R108, R109: only the wrap disables the output. -/
theorem dmEffect_keeps_OEN {op : DmOp} (h : op ≠ .pressWrap) {s : State} (hOEN : s.OEN = true) :
    (dmEffect op s).OEN = true := by
  cases op with
  | pressWrap => exact absurd rfl h
  | pressStep => rfl
  | hold f => exact hOEN
  | release f => exact hOEN
  | reserved f => exact hOEN

/-- R105, R108: only a RELEASE turns the indicator off. -/
theorem applyEvent_keeps_IND {ev : EventCode} (h : ev ≠ Event.RELEASE) {s : State} (hIND : s.IND = true) :
    (applyEvent ev s).IND = true := by
  simp [applyEvent, h, hIND]

/-! ### The obligations -/

/-- Settles O22: with `EMIT_RELEASE = 0` no debounce operation gives RELEASE, and nothing else clears the indicator. -/
theorem holdAndReleaseOperations : Obligations.HoldAndReleaseOperations := by
  unfold Obligations.HoldAndReleaseOperations
  refine ⟨fun s f h => ⟨guarded_ready h dmHoldEffect, guarded_ready h dmReleaseEffect⟩,
    fun s => ⟨dmsel_hold_iff s, dmsel_release_iff s⟩, fun s pin f hemit hsel => ?_, fun s t pin hemit h hIND => ?_⟩
  · exact debouncePhase_ev_ne_release hemit pin ((dmsel_release_iff _).mp ⟨f, hsel⟩)
  · obtain ⟨k, rfl⟩ | rfl := exec_tickInstr_cases h
    · exact hIND
    · exact applyEvent_keeps_IND (dbEffect_ev_ne_release hemit _) hIND

/-- Settles O23: the sum that fits under `CEILING` is written uncut. -/
theorem pressStepOperation : Obligations.PressStepOperation := by
  unfold Obligations.PressStepOperation
  refine ⟨fun s h hfits => ⟨?_, stepped_duty_bounds h hfits⟩, dmsel_pressStep_iff⟩
  exact (guarded_ready h dmPressStepEffect).trans (congrArg _ (dmPressStepEffect_eq h hfits))

/-- Settles O24: both corner cases are sums above `CEILING`, by `STEP` alone or by `D0` alone. -/
theorem pressWrapOperation : Obligations.PressWrapOperation := by
  unfold Obligations.PressWrapOperation
  refine ⟨fun s h => ?_, dmsel_pressWrap_iff, fun s hev hDUTY hSTEP => ?_, fun s hev hDUTY hD0 => ?_,
    fun op s t h hbefore hafter => ?_⟩
  · exact (guarded_ready h dmPressWrapEffect).trans (congrArg _ (dmPressWrapEffect_eq s))
  · exact (dmsel_pressWrap_iff s).mpr ⟨hev, by omega⟩
  · exact (dmsel_pressWrap_iff s).mpr ⟨hev, by omega⟩
  · obtain ⟨-, rfl⟩ := guarded_next (exec_dmOp op s ▸ h)
    by_contra hop
    exact absurd ((dmEffect_keeps_OEN hop hbefore).symm.trans hafter) (by decide)

/-- Settles O25: the debounce phase never gives the reserved code, which alone selects the operation. -/
theorem reservedOperationFaults : Obligations.ReservedOperationFaults := by
  unfold Obligations.ReservedOperationFaults
  refine ⟨fun s f h => ⟨_, guarded_ready h (dmReservedEffect f), rfl, ?_⟩, dmsel_reserved_iff, fun s pin f hsel => ?_⟩
  · cases f <;> rfl
  · exact debouncePhase_ev_ne_reserved _ ((dmsel_reserved_iff _).mp ⟨f, hsel⟩)

end Sys2Proof.Machine
end

section
/-! Who writes `DUTY` and `OEN` (R112), and the duty after a run of ticks (R110). -/

namespace Sys2Proof.Machine

/-! ### Writers of the duty registers -/

/-- R103, R108, R109: of the duty operations only the two presses write `DUTY` or `OEN`. -/
theorem dmEffect_duty_writers {op : DmOp} {s : State}
    (h : (dmEffect op s).DUTY ≠ s.DUTY ∨ (dmEffect op s).OEN ≠ s.OEN) : op = .pressStep ∨ op = .pressWrap := by
  cases op with
  | pressStep => exact .inl rfl
  | pressWrap => exact .inr rfl
  | hold f => exact (h.elim (· rfl) (· rfl)).elim
  | release f => exact (h.elim (· rfl) (· rfl)).elim
  | reserved f => exact (h.elim (· rfl) (· rfl)).elim

/-- R102: within a tick only a PRESS writes `DUTY` or `OEN`. -/
theorem applyEvent_duty_writers {ev : EventCode} {s : State}
    (h : (applyEvent ev s).DUTY ≠ s.DUTY ∨ (applyEvent ev s).OEN ≠ s.OEN) : ev = Event.PRESS := by
  by_contra hev
  simp [applyEvent, hev] at h

/-- A state in which both registers stand as before contradicts a write to either. -/
theorem dutyRegisters_unwritten {s t u : State} (ht : t = u) (hDUTY : u.DUTY = s.DUTY) (hOEN : u.OEN = s.OEN) :
    ¬ (t.DUTY ≠ s.DUTY ∨ t.OEN ≠ s.OEN) := by
  subst ht
  exact fun h => h.elim (· hDUTY) (· hOEN)

/-- Settles O44, family by family: the frames of the other families leave both registers. -/
theorem dutyRegisterWriters : Obligations.DutyRegisterWriters := by
  unfold Obligations.DutyRegisterWriters
  intro i s t h hwrite
  obtain ⟨hed, hdb, -, hpc, hpw, hout⟩ := internalOperationFrames
  cases instrFamily i with
  | rst pin => exact .inr (.inr (.inl ⟨pin, rfl⟩))
  | tick pin =>
    obtain ⟨k, rfl⟩ | rfl := exec_tickInstr_cases h
    · exact absurd hwrite (dutyRegisters_unwritten rfl rfl rfl)
    · exact .inr (.inr (.inr ⟨pin, rfl, applyEvent_duty_writers hwrite⟩))
  | dm op =>
    obtain ⟨-, rfl⟩ := guarded_next (exec_dmOp op s ▸ h)
    obtain rfl | rfl := dmEffect_duty_writers hwrite
    · exact .inl rfl
    · exact .inr (.inl rfl)
  | ed op => exact absurd hwrite (dutyRegisters_unwritten (hed op s t h) rfl rfl)
  | db op => exact absurd hwrite (dutyRegisters_unwritten (hdb op s t h) rfl rfl)
  | pc op => exact absurd hwrite (dutyRegisters_unwritten (hpc op s t h) rfl rfl)
  | pw op => exact absurd hwrite (dutyRegisters_unwritten (hpw op s t h) rfl rfl)
  | out op => exact absurd hwrite (dutyRegisters_unwritten (hout op s t h) rfl rfl)

/-! ### The duty after a run (R110) -/

/-- R104, R106, R107: a tick applies the step-or-wrap function exactly when it emits a PRESS. -/
theorem pinTick_DUTY (s : State) (pin : Bit) :
    (pinTick s pin).DUTY = if (pinTick s pin).EVT = Event.PRESS then stepOrWrap s.cfg s.DUTY else s.DUTY := rfl

theorem count_press_eventsOf_cons (t : State) (l : List State) :
    (eventsOf (t :: l)).count Event.PRESS =
      (eventsOf l).count Event.PRESS + if t.EVT = Event.PRESS then 1 else 0 := by
  have hne : Event.NONE ≠ Event.PRESS := by decide
  rw [eventsOf_cons]
  by_cases hnone : t.EVT = Event.NONE
  · simp [hnone, hne]
  · simp [hnone, List.count_cons]

/-- Settles O50, by induction on the levels: the first tick's PRESS is the first application of the function. -/
theorem dutyFollowsTheRatchet : Obligations.DutyFollowsTheRatchet := by
  unfold Obligations.DutyFollowsTheRatchet
  intro s t pins h hrun
  induction pins generalizing s with
  | nil =>
    cases hrun
    rfl
  | cons pin pins ih =>
    have htick := tickWith_pinWord_of_inv h pin
    rw [runPins_cons pins htick] at hrun
    rw [ih (pinTick s pin) (pinTick_inv h pin) hrun, pinTable_cons pins htick, count_press_eventsOf_cons, pinTick_cfg,
      pinTick_DUTY]
    by_cases hpress : (pinTick s pin).EVT = Event.PRESS
    · rw [if_pos hpress, if_pos hpress, Function.iterate_succ_apply]
    · rw [if_neg hpress, if_neg hpress, Nat.add_zero]

end Sys2Proof.Machine
end

section
/-! The PWM generator and the output mux (R114 to R120): what each operation does when it is run by itself, and when its
decode vector selects it. -/

namespace Sys2Proof.Machine

/-! ### What `PCSEL`, `PWSEL` and `OUTSEL` select (R69, R72, R73) -/

theorem pcsel_inc_iff (s : State) : decodePcsel (pcsel s) = .inc ↔ s.PCNT < s.cfg.PERIOD := by
  rw [decodePcsel_pcsel]
  by_cases htop : s.cfg.PERIOD ≤ s.PCNT
  · simp [top, htop]
  · simp [top, htop, Nat.lt_of_not_le htop]

theorem pcsel_wrap_iff (s : State) : decodePcsel (pcsel s) = .wrap ↔ s.cfg.PERIOD ≤ s.PCNT := by
  rw [decodePcsel_pcsel]
  by_cases htop : s.cfg.PERIOD ≤ s.PCNT <;> simp [top, htop]

/-- R72: at the duty threshold the clear is selected, whether or not the period starts there. -/
theorem pwsel_selects_iff (s : State) :
    ((∃ z, decodePwsel (pwsel s) = .clear z) ↔ s.PCNT = s.DUTY) ∧
      (decodePwsel (pwsel s) = .set ↔ s.PCNT ≠ s.DUTY ∧ s.PCNT = 0) ∧
      (decodePwsel (pwsel s) = .hold ↔ s.PCNT ≠ s.DUTY ∧ s.PCNT ≠ 0) := by
  rw [decodePwsel_pwsel]
  by_cases hclear : s.PCNT = s.DUTY
  · simp [clrSig, hclear]
  · by_cases hset : s.PCNT = 0
    · have hduty : 0 ≠ s.DUTY := hset ▸ hclear
      simp [clrSig, setSig, hset, hduty]
    · simp [clrSig, setSig, hclear, hset]

theorem outsel_selects_iff (s : State) :
    (decodeOutsel (outsel s) = .pwm ↔ s.OEN = true) ∧ (decodeOutsel (outsel s) = .latch ↔ s.OEN = false) := by
  rw [decodeOutsel_outsel]
  cases s.OEN <;> simp

/-! ### The period counter -/

/-- R114: a count below `PERIOD` stays within it, so it fits `DUTY_W` bits (R7). -/
theorem incremented_pcnt_bounds {s : State} (h : Ready s) (hbelow : s.PCNT < s.cfg.PERIOD) :
    s.PCNT + 1 ≤ s.cfg.PERIOD ∧ s.PCNT + 1 < 2 ^ s.cfg.DUTY_W := by
  obtain ⟨-, -, -, -, -, -, hDuty⟩ := (wellFormedConfig_iff s.cfg).mp h.1
  exact ⟨hbelow, Nat.lt_of_le_of_lt hbelow hDuty⟩

theorem pcIncEffect_eq {s : State} (h : Ready s) (hbelow : s.PCNT < s.cfg.PERIOD) :
    pcIncEffect s = { s with PCNT := s.PCNT + 1 } := by
  obtain ⟨-, hwidth⟩ := incremented_pcnt_bounds h hbelow
  simp [pcIncEffect, State.setPCNT, fitWidth_of_lt hwidth]

theorem pcWrapEffect_eq (s : State) : pcWrapEffect s = { s with PCNT := 0 } := by
  simp [pcWrapEffect, State.setPCNT]

/-- R114, R115, as the counter's next value over the start-of-tick registers. -/
theorem nextPCNT_eq (s : State) : nextPCNT s = if s.PCNT < s.cfg.PERIOD then s.PCNT + 1 else 0 := by
  rw [nextPCNT]
  split <;> split <;> omega

/-! ### The obligations -/

/-- Settles O26: below `PERIOD` nothing is cut, and the counter phase of every tick writes `nextPCNT`. -/
theorem counterOperations : Obligations.CounterOperations := by
  unfold Obligations.CounterOperations
  refine ⟨fun s h => ⟨fun hbelow => ⟨?_, incremented_pcnt_bounds h hbelow⟩, ?_⟩,
    fun s => ⟨pcsel_inc_iff s, pcsel_wrap_iff s⟩, fun s t pin h ht => ?_⟩
  · exact (guarded_ready h pcIncEffect).trans (congrArg _ (pcIncEffect_eq h hbelow))
  · exact (guarded_ready h pcWrapEffect).trans (congrArg _ (pcWrapEffect_eq s))
  · rw [exec_tickInstr_of_clauses h.ready h.clauses, tick_eq_tickResult h.ready h.clauses] at ht
    obtain rfl : tickResult s pin = t := Host.Outcome.next.inj ht
    exact nextPCNT_eq s

/-- Settles O27: each effect writes `PQ` at most, and the vector tests the duty threshold before the period start. -/
theorem latchOperations : Obligations.LatchOperations := by
  unfold Obligations.LatchOperations
  exact ⟨fun s z h => ⟨guarded_ready h pwClearEffect, guarded_ready h pwSetEffect, guarded_ready h pwHoldEffect⟩,
    pwsel_selects_iff⟩

/-- Settles O28: each effect writes the line alone, and the vector is `OEN`. -/
theorem outputOperations : Obligations.OutputOperations := by
  unfold Obligations.OutputOperations
  exact ⟨fun s h => ⟨guarded_ready h outPwmEffect, guarded_ready h outLatchEffect⟩, outsel_selects_iff⟩

end Sys2Proof.Machine
end

section
/-! The waveform over runs of ticks (R116 to R118, R121, R124). -/

namespace Sys2Proof.Machine

/-! ### A period of constant duty (R121) -/

theorem pinTick_PCNT (s : State) (pin : Bit) : (pinTick s pin).PCNT = nextPCNT s := rfl

/-- R116 to R118: the latch of a tick is driven by the counter and the duty that the tick leaves. -/
theorem pinTick_PQ (s : State) (pin : Bit) :
    (pinTick s pin).PQ = nextPQ (pinTick s pin).PCNT (pinTick s pin).DUTY s.PQ := rfl

/-- R116, R117: where the period starts the latch is set, unless the duty is 0. -/
theorem nextPQ_periodStart (d : Nat) (pq : Bit) : nextPQ 0 d pq = decide (0 < d) := by
  cases d <;> simp [nextPQ]

/-- R116, R118: inside the period the latch falls at `d` and holds elsewhere, so it stays high exactly below `d`. -/
theorem nextPQ_insidePeriod (c d : Nat) : nextPQ (c + 1) d (decide (c < d)) = decide (c + 1 < d) := by
  by_cases hclear : c + 1 = d
  · simp [nextPQ, hclear]
  · have hlt : c < d ↔ c + 1 < d := by omega
    simp [nextPQ, hclear, hlt]

/-- `s` stands at count `c` of a period of constant duty `d`, with the waveform R121 gives it. -/
structure AtCount (c d : Nat) (s : State) : Prop where
  pcnt : s.PCNT = c
  pq : s.PQ = decide (c < d)

theorem pinTick_atCount_zero {s : State} {pin : Bit} {d : Nat} (htop : s.PCNT = s.cfg.PERIOD)
    (hDUTY : (pinTick s pin).DUTY = d) : AtCount 0 d (pinTick s pin) := by
  have hPCNT : (pinTick s pin).PCNT = 0 := by rw [pinTick_PCNT, nextPCNT, if_pos htop.ge]
  refine ⟨hPCNT, ?_⟩
  rw [pinTick_PQ, hPCNT, hDUTY, nextPQ_periodStart]

theorem pinTick_atCount_succ {s : State} {pin : Bit} {c d : Nat} (h : AtCount c d s) (hbelow : c < s.cfg.PERIOD)
    (hDUTY : (pinTick s pin).DUTY = d) : AtCount (c + 1) d (pinTick s pin) := by
  obtain ⟨hcount, hPQ⟩ := h
  have hPCNT : (pinTick s pin).PCNT = c + 1 := by
    rw [pinTick_PCNT, nextPCNT, hcount, if_neg (Nat.not_le.mpr hbelow)]
  refine ⟨hPCNT, ?_⟩
  rw [pinTick_PQ, hPCNT, hDUTY, hPQ, nextPQ_insidePeriod]

/-- R121: within the period each tick of constant duty moves the count on by one and keeps the waveform. -/
theorem atCount_run {pins : List Bit} {s : State} {c d k : Nat} (h : Inv s) (hat : AtCount c d s)
    (hleft : c + pins.length ≤ s.cfg.PERIOD) (hDUTY : ∀ u ∈ pinTable pins s, u.DUTY = d) (hk : k < pins.length) :
    ∃ u, (pinTable pins s)[k]? = some u ∧ AtCount (c + 1 + k) d u := by
  induction pins generalizing s c k with
  | nil => exact absurd hk (Nat.not_lt_zero k)
  | cons pin pins ih =>
    rw [pinTable_cons pins (tickWith_pinWord_of_inv h pin)] at hDUTY ⊢
    obtain ⟨hnow, hrest⟩ := List.forall_mem_cons.mp hDUTY
    rw [List.length_cons] at hleft hk
    have hnext := pinTick_atCount_succ hat (by omega) hnow
    cases k with
    | zero => exact ⟨_, rfl, hnext⟩
    | succ k =>
      have hleft' : c + 1 + pins.length ≤ (pinTick s pin).cfg.PERIOD := by
        rw [pinTick_cfg]
        omega
      obtain ⟨u, hu, huat⟩ := ih (pinTick_inv h pin) hnext hleft' hrest (Nat.lt_of_succ_lt_succ hk)
      have hcount : c + 1 + 1 + k = c + 1 + (k + 1) := by omega
      exact ⟨u, hu, hcount ▸ huat⟩

/-- Settles O51: the first tick wraps the counter to count 0 of the period, and the others run within it. -/
theorem steadyWaveformIsHighBelowDuty : Obligations.SteadyWaveformIsHighBelowDuty := by
  unfold Obligations.SteadyWaveformIsHighBelowDuty
  intro s pins d k h htop hlength hDUTY hk
  cases pins with
  | nil => exact absurd hk (Nat.not_lt_zero k)
  | cons pin pins =>
    rw [pinTable_cons pins (tickWith_pinWord_of_inv h pin)] at hDUTY ⊢
    obtain ⟨hnow, hrest⟩ := List.forall_mem_cons.mp hDUTY
    have hstart := pinTick_atCount_zero htop hnow
    cases k with
    | zero => exact ⟨_, rfl, hstart.pcnt, hstart.pq⟩
    | succ k =>
      have hleft : 0 + pins.length ≤ (pinTick s pin).cfg.PERIOD := by
        rw [pinTick_cfg]
        simpa using hlength
      obtain ⟨u, hu, hat⟩ := atCount_run (pinTick_inv h pin) hstart hleft hrest (Nat.lt_of_succ_lt_succ hk)
      have hcount : 0 + 1 + k = k + 1 := by omega
      rw [hcount] at hat
      exact ⟨u, hu, hat.pcnt, hat.pq⟩

/-! ### A step from duty 0 inside a period (log 11) -/

/-- The configuration of P4 in 95_test_vectors.md. -/
def p4Config : Config := { Config.reference with N := 2 }

/-- The levels of P4 from its tick 2 to the tick before its sixth press: five presses of three ticks, each with its
release, then two ticks of the sixth. -/
def p4Pins : List Bit :=
  (List.replicate 5 [false, false, false, true, true, true]).flatten ++ [false, false]

/-- Settles O53 by P4, tick 34: the fifth press wraps the duty to 0 past the start of the period, so nothing clears the
latch before the sixth press steps the duty in the same period. -/
theorem stepFromZeroCanFindTheLatchHigh : Obligations.StepFromZeroCanFindTheLatchHigh := by
  unfold Obligations.StepFromZeroCanFindTheLatchHigh
  exact ⟨p4Config, p4Pins, false, _, _, by decide, rfl, rfl, by decide, by decide, by decide, by decide, by decide,
    by decide⟩

end Sys2Proof.Machine
end

section
/-! `PWM_STRATEGY` is a parameter that no operation reads (R122, R123). -/

namespace Sys2Proof.Machine

theorem debounceOp_withStrategy (p : PwmStrategy) (s : State) (pin : Bit) :
    debounceOp (withStrategy p s) pin = debounceOp s pin := by
  rw [debounceOp_eq, debounceOp_eq, detects_eq, detects_eq]
  rfl

/-- The closed expression of a tick reads every parameter but the strategy. -/
theorem tickResult_withStrategy (p : PwmStrategy) (s : State) (pin : Bit) :
    tickResult (withStrategy p s) pin = withStrategy p (tickResult s pin) := by
  rw [tickResult, tickResult, debounceOp_withStrategy]
  cases debounceOp s pin <;> rfl

theorem nonResetTick_withStrategy (p : PwmStrategy) {s : State} (h : Ready s) (pin : Bit) :
    nonResetTick pin (withStrategy p s) = withStrategy p (nonResetTick pin s) := by
  have hready : Ready (withStrategy p s) := h
  have hclauses : brokenClause (withStrategy p s) = brokenClause s := rfl
  rw [nonResetTick, nonResetTick, hclauses]
  cases hbroken : brokenClause s with
  | some k => rfl
  | none =>
    change tick pin (withStrategy p s) = withStrategy p (tick pin s)
    rw [tick_eq_tickResult hready (hclauses.trans hbroken), tick_eq_tickResult h hbroken, tickResult_withStrategy]

theorem rstEffect_withStrategy (p : PwmStrategy) (s : State) :
    rstEffect (withStrategy p s) = withStrategy p (rstEffect s) := by
  rw [rstEffect, rstEffect, outputPhase_eq, outputPhase_eq]
  rfl

/-- The frame refuses, faults and runs alike under both strategies. -/
theorem guarded_withStrategy (p : PwmStrategy) {effect : State → State} {s : State}
    (h : Ready s → effect (withStrategy p s) = withStrategy p (effect s)) :
    guarded (withStrategy p s) effect = outcomeWithStrategy p (guarded s effect) := by
  cases hcfg : brokenCondition s.cfg with
  | some k => rw [guarded_illFormed hcfg, guarded_illFormed (s := withStrategy p s) hcfg, outcomeWithStrategy]
  | none =>
    cases hfault : s.fault with
    | some f =>
      rw [guarded_faulted hcfg hfault, guarded_faulted (s := withStrategy p s) hcfg hfault, outcomeWithStrategy]
    | none =>
      have hready : Ready s := ⟨hcfg, hfault⟩
      rw [guarded_ready hready, guarded_ready (s := withStrategy p s) hready, h hready, outcomeWithStrategy]

/-- Settles O45: a step is a reset or a tick in the frame, and the ports read no parameter. -/
theorem strategyIsUnobservable : Obligations.StrategyIsUnobservable := by
  unfold Obligations.StrategyIsUnobservable
  refine fun p s => ⟨?_, rfl⟩
  change exec (decodeStim s.nextWord).toInstr (withStrategy p s.advance) =
    outcomeWithStrategy p (exec (decodeStim s.nextWord).toInstr s.advance)
  obtain ⟨pin, hop⟩ | ⟨pin, hop⟩ := decodeStim_cases s.nextWord
  · rw [hop, exec_rst, exec_rst]
    exact guarded_withStrategy p fun _ => rstEffect_withStrategy p s.advance
  · rw [hop, exec_tickInstr, exec_tickInstr]
    exact guarded_withStrategy p fun h => nonResetTick_withStrategy p h pin

end Sys2Proof.Machine
end

section
/-! Faults (R125, R127, R140): a fault-free state of the invariant always steps on, a faulted state never does, and a
tick from a state that breaks R47 raises its fault before any operation runs. -/

namespace Sys2Proof.Machine

/-! ### Progress (R127, R140) -/

/-- Where operations run, every instruction answers a next state. -/
theorem exec_next_of_ready {s : State} (h : Ready s) (i : Instr) : ∃ t, exec i s = .next t := by
  obtain ⟨effect, hexec⟩ := exec_guarded i
  exact ⟨effect s, (hexec s).trans (guarded_ready h effect)⟩

/-- R140: whichever word the step takes, the invariant gives the step and holds after it. -/
theorem step_next_of_inv {s : State} (h : Inv s) : ∃ t, step s = .next t ∧ Inv t := by
  obtain ⟨t, hstep⟩ := exec_next_of_ready h.advance.ready (decodeStim s.nextWord).toInstr
  exact ⟨t, hstep, step_inv h hstep⟩

/-- Settles O38: the next state satisfies the invariant, which holds no fault. -/
theorem stepAlwaysAnswers : Obligations.StepAlwaysAnswers := by
  unfold Obligations.StepAlwaysAnswers
  intro s h
  obtain ⟨t, hstep, hinv⟩ := step_next_of_inv h
  exact ⟨t, hstep, hinv.ready.2⟩

theorem safeRun_of_inv {ws : List StimWord} {s : State} (h : Inv s) : SafeRun ws s := by
  induction ws generalizing s with
  | nil => exact ⟨s, rfl, h.ready.2⟩
  | cons w ws ih =>
    obtain ⟨u, hstep, hinv⟩ := step_next_of_inv (h.present w)
    obtain ⟨t, hrun, hfault⟩ := ih hinv
    refine ⟨t, ?_, hfault⟩
    rw [runWords, tickWith, hstep, andThen_next, hrun]

/-- Settles O40: the invariant holds at reset, and every run of words from it is safe. -/
theorem noRunFromResetFaults : Obligations.NoRunFromResetFaults := by
  unfold Obligations.NoRunFromResetFaults
  exact fun _ _ hwf => safeRun_of_inv (powerOn_inv hwf)

/-! ### A faulted state (R125) -/

theorem exec_faulted {s : State} {f : Fault} (hwf : WellFormedConfig s.cfg) (hfault : s.fault = some f) (i : Instr) :
    exec i s = .fault f := by
  obtain ⟨effect, hexec⟩ := exec_guarded i
  rw [hexec, guarded_faulted hwf hfault]

/-- Settles O35: the frame of every instruction answers the fault held, and advancing keeps it. -/
theorem faultedStateTakesNoStep : Obligations.FaultedStateTakesNoStep := by
  unfold Obligations.FaultedStateTakesNoStep
  exact ⟨fun s f => ⟨rfl, rfl⟩,
    fun s f hwf hfault => ⟨exec_faulted hwf hfault, exec_faulted (s := s.advance) hwf hfault _⟩⟩

/-! ### A state that breaks R47 (R127, log 7) -/

theorem mem_clausesInOrder (k : Clause) : k ∈ clausesInOrder := by
  cases k <;> decide

/-- The check goes through every clause, so it reports one exactly when some clause fails. -/
theorem exists_failing_clause_iff (s : State) :
    (∃ k, clauseHolds s k = false) ↔ ∃ k, brokenClause s = some k := by
  constructor
  · rintro ⟨k, hk⟩
    have hfound : (brokenClause s).isSome := List.find?_isSome.mpr ⟨k, mem_clausesInOrder k, by simp [hk]⟩
    exact Option.isSome_iff_exists.mp hfound
  · rintro ⟨k, hk⟩
    exact ⟨k, brokenClause_fails hk⟩

theorem exec_tickInstr_of_brokenClause {s : State} {k : Clause} (hready : Ready s) (hbroken : brokenClause s = some k)
    (pin : Bit) : exec (tickInstr pin) s = .next (s.raise (.invariantBroken k)) := by
  rw [exec_tickInstr, guarded_ready hready, nonResetTick, hbroken]

/-- Settles O36: the check comes before the tick's operations, and RST, which has none, gives the power-on state. -/
theorem brokenStateFaultsOnTick : Obligations.BrokenStateFaultsOnTick := by
  unfold Obligations.BrokenStateFaultsOnTick
  refine ⟨exists_failing_clause_iff, fun s k pin hready hbroken => ?_, fun s pin hready => ?_⟩
  · exact ⟨brokenClause_fails hbroken, exec_tickInstr_of_brokenClause hready hbroken pin⟩
  · refine ⟨rstEffect s, guarded_ready hready rstEffect, ?_⟩
    rw [rstEffect_eq_powerOn hready]
    rfl

end Sys2Proof.Machine
end

section
/-! The interrupt sources and the messages of a tick (R57, R128, R129, R142). -/

namespace Sys2Proof.Machine

/-! ### Messages and debounce operations (R142) -/

theorem messageOfDb_timerExpired_iff (op : DbOp) :
    messageOfDb op = some .timerExpired ↔ op = .expireConfirm ∨ op = .expireReject := by
  cases op <;> simp [messageOfDb]

theorem messageOfDb_none_iff (op : DbOp) :
    messageOfDb op = none ↔ (∃ m, op = .count m) ∨ ∃ l m, op = .idle l m := by
  cases op <;> simp [messageOfDb]

/-! ### Sources and messages (R57, R128) -/

/-- R129: the expiry is raised only at a tick without a detected edge. -/
theorem rawEdge_debounceExpiry_exclusive (s : State) (pin : Bit) :
    ¬ (sourceRaised s pin .rawEdge = true ∧ sourceRaised s pin .debounceExpiry = true) := by
  rintro ⟨hedge, hexpiry⟩
  have hdetects : detects s pin = true := hedge
  simp [sourceRaised, hdetects] at hexpiry

/-- R142: the message of a tick is the debounce source it raises. -/
theorem messageOf_eq (s : State) (pin : Bit) :
    messageOf s pin =
      if sourceRaised s pin .rawEdge then some .rawEdge
      else if sourceRaised s pin .debounceExpiry then some .timerExpired
      else none := by
  rw [messageOf, debounceOp_eq]
  cases hdet : detects s pin with
  | true => simp [sourceRaised, hdet, messageOfDb]
  | false =>
    cases hrun : s.TRUN with
    | false => simp [sourceRaised, hdet, hrun, messageOfDb]
    | true =>
      by_cases hlast : s.cfg.N ≤ s.TCNT + 1
      · have hexpire : messageOfDb (if pin = s.ARM then .expireConfirm else .expireReject) = some .timerExpired := by
          split <;> rfl
        simp [sourceRaised, last, hdet, hrun, hlast, hexpire]
      · simp [sourceRaised, last, hdet, hrun, hlast, messageOfDb]

theorem rawEdge_raised_iff (s : State) (pin : Bit) :
    sourceRaised s pin .rawEdge = true ↔ messageOf s pin = some .rawEdge := by
  rw [messageOf_eq]
  cases sourceRaised s pin .rawEdge <;> cases sourceRaised s pin .debounceExpiry <;> simp

theorem debounceExpiry_raised_iff (s : State) (pin : Bit) :
    sourceRaised s pin .debounceExpiry = true ↔ messageOf s pin = some .timerExpired := by
  have hexclusive := rawEdge_debounceExpiry_exclusive s pin
  rw [messageOf_eq]
  cases hedge : sourceRaised s pin .rawEdge <;> cases hexpiry : sourceRaised s pin .debounceExpiry <;>
    simp [hedge, hexpiry] at hexclusive ⊢

/-- Settles O46: the message is the source raised, `messageOfDb` tells the operations apart by their message, and
`PWSEL` is made of the two waveform sources. -/
theorem interruptSourcesSelectOperations : Obligations.InterruptSourcesSelectOperations := by
  unfold Obligations.InterruptSourcesSelectOperations
  intro s pin
  have hexpiry := debounceExpiry_raised_iff s pin
  obtain ⟨hclear, hset, -⟩ := pwsel_selects_iff (atLatch s pin)
  refine ⟨rawEdge_debounceExpiry_exclusive s pin, rawEdge_raised_iff s pin, hexpiry,
    hexpiry.trans (messageOfDb_timerExpired_iff _), messageOfDb_none_iff _, ?_, ?_⟩
  · rw [hclear, sourceRaised, clrSig, decide_eq_true_iff]
  · rw [hset, sourceRaised, sourceRaised, clrSig, setSig, decide_eq_false_iff_not, decide_eq_true_iff]

end Sys2Proof.Machine
end

section
/-! Reset (R143 to R145), and a press held through it (R146). -/

namespace Sys2Proof.Machine

/-! ### The reset state (R143 to R145) -/

/-- R143, R144: where operations run, RST answers the power-on state of the block, in the environment as it stands. -/
theorem exec_rst_of_ready {s : State} (h : Ready s) (pin : Bit) :
    exec (.rst pin) s = .next (withEnvironment s.stim s.ticks (State.powerOn s.cfg)) :=
  (guarded_ready h rstEffect).trans (congrArg _ (rstEffect_eq_powerOn h))

/-- Settles O9: the power-on state has the values of R143, and its `FAULT` is the one the state already holds. -/
theorem resetWritesEveryRegister : Obligations.ResetWritesEveryRegister := by
  unfold Obligations.ResetWritesEveryRegister
  refine ⟨fun s pin h => ⟨?_, ?_⟩, fun s pin f hwf hfault => exec_faulted hwf hfault (.rst pin)⟩
  · cases pin <;> rfl
  · have hfault : s.fault = none := h.2
    rw [exec_rst_of_ready h, hfault]
    rfl

/-- Settles O10: `withEnvironment` keeps the pending words and the tick number, the only fields that are not reset. -/
theorem resetStateIsThePowerOnState : Obligations.ResetStateIsThePowerOnState := by
  unfold Obligations.ResetStateIsThePowerOnState
  exact ⟨rfl, rfl, fun _ pin h => exec_rst_of_ready h pin⟩

theorem clauseHolds_of_brokenClause_none {s : State} (h : brokenClause s = none) (k : Clause) :
    clauseHolds s k = true := by
  by_contra hk
  obtain ⟨k', hbroken⟩ := (exists_failing_clause_iff s).mp ⟨k, Bool.eq_false_of_not_eq_true hk⟩
  exact absurd (h.symm.trans hbroken) (by simp)

/-- Settles O11: the check of R47 finds no broken clause in the power-on state, and `D0` is within `PERIOD` by R7. -/
theorem resetStateSatisfiesEveryClause : Obligations.ResetStateSatisfiesEveryClause := by
  unfold Obligations.ResetStateSatisfiesEveryClause
  intro c hwf
  obtain ⟨-, -, -, -, hD0, -, -⟩ := (wellFormedConfig_iff c).mp hwf
  exact ⟨clauseHolds_of_brokenClause_none (powerOn_clauses hwf), rfl, rfl, rfl, hD0, rfl, rfl, rfl, rfl⟩

/-! ### Runs at a held level -/

/-- R80: a row of the run table is the state that the words up to its tick lead to. -/
theorem runWords_take_of_runTable {ws : List StimWord} {s t : State} {k : Nat} (h : (runTable ws s)[k]? = some t) :
    runWords (ws.take (k + 1)) s = .next t := by
  induction ws generalizing s k with
  | nil => cases h
  | cons w ws ih =>
    rw [List.take_succ_cons, runWords]
    rw [runTable] at h
    cases htick : tickWith w s with
    | fault f => simp [htick] at h
    | refused r => simp [htick] at h
    | next u =>
      rw [htick] at h
      cases k with
      | zero => exact congrArg _ (Option.some.inj h)
      | succ k => exact ih h

theorem runPins_take_of_pinTable {pins : List Bit} {s t : State} {k : Nat} (h : (pinTable pins s)[k]? = some t) :
    runPins (pins.take (k + 1)) s = .next t := by
  rw [runPins, List.map_take]
  exact runWords_take_of_runTable h

/-- R88: a pin that stays at its last sample gives no edge. -/
theorem noDetect_held {s : State} {pin : Bit} (h : Inv s) (hheld : s.PIN_Q = pin) (n : Nat) :
    NoDetect (List.replicate n pin) s := by
  induction n generalizing s with
  | zero => trivial
  | succ n ih =>
    refine ⟨by simp [detects_eq, hheld], fun t ht => ?_⟩
    obtain rfl : pinTick s pin = t := by simpa [tickWith_pinWord_of_inv h] using ht
    exact ih (pinTick_inv h pin) (pinTick_PIN_Q s pin)

/-- R94, R99: just after an edge, a pin held at the armed level is confirmed at the tick `N` ticks later, and no tick
before that one emits. -/
theorem heldEdge_run {s : State} (h : Inv s) (hrun : s.TRUN = true) (hTCNT : s.TCNT = 0) (hheld : s.PIN_Q = s.ARM)
    {k : Nat} (hk : k < s.cfg.N) :
    ∃ t, runPins (List.replicate (k + 1) s.ARM) s = .next t ∧
      t.EVT = if k + 1 = s.cfg.N then classify s.cfg s.ARM else Event.NONE := by
  have hwindowPins : List.replicate s.cfg.N s.ARM = List.replicate (s.cfg.N - 1) s.ARM ++ [s.ARM] := by
    rw [← List.replicate_succ', Nat.sub_add_cancel (by omega)]
  have hleft : s.TCNT + (List.replicate (s.cfg.N - 1) s.ARM).length + 1 = s.cfg.N := by
    rw [List.length_replicate]
    omega
  obtain ⟨hbefore, t, hend, -, -, -, hEVT⟩ := quietWindow h hrun hleft (hwindowPins ▸ noDetect_held h hheld s.cfg.N)
  by_cases hlast : k + 1 = s.cfg.N
  · rw [if_pos rfl] at hEVT
    rw [if_pos hlast, hlast, hwindowPins]
    exact ⟨t, hend, hEVT⟩
  · obtain ⟨u, hu, -, -, -, huEVT⟩ := hbefore k (by rw [List.length_replicate]; omega)
    have htake := runPins_take_of_pinTable hu
    rw [List.take_replicate, Nat.min_eq_left (by omega)] at htake
    rw [if_neg hlast]
    exact ⟨u, htake, huEVT⟩

/-! ### The first ticks after reset (R146) -/

/-- R146: after reset the last sample is the inactive level and the press edge is armed. -/
theorem powerOn_detects (c : Config) (pin : Bit) : detects (State.powerOn c) pin = decide (pin = c.ACT) := by
  have hPIN_Q : (State.powerOn c).PIN_Q = !c.ACT := rfl
  have hARM : (State.powerOn c).ARM = c.ACT := rfl
  rw [detects_eq, hPIN_Q, hARM]
  by_cases hpin : pin = c.ACT <;> simp [hpin]

/-- R91: with the timer idle, a tick without an edge leaves it idle and emits nothing. -/
theorem pinTick_idle {s : State} {pin : Bit} (hdet : detects s pin = false) (hidle : s.TRUN = false) :
    (pinTick s pin).TRUN = false ∧ (pinTick s pin).EVT = Event.NONE := by
  have hop : debounceOp s pin = .idle (last s) (decide (pin = s.ARM)) := by simp [debounceOp_eq, hdet, hidle]
  rw [pinTick_TRUN, pinTick_EVT, hop]
  exact ⟨hidle, rfl⟩

/-- R146, R99: the first tick of a press held through reset starts a window, and the press is confirmed at its end. -/
theorem powerOn_pressHeld_run {c : Config} (hwf : WellFormedConfig c) {k : Nat} (hk : k ≤ c.N) :
    ∃ t, runPins (List.replicate (k + 1) c.ACT) (State.powerOn c) = .next t ∧
      t.EVT = if k = c.N then Event.PRESS else Event.NONE := by
  obtain ⟨hN, -⟩ := (wellFormedConfig_iff c).mp hwf
  have hinv := powerOn_inv hwf
  have hdet : detects (State.powerOn c) c.ACT = true := by simp [powerOn_detects]
  obtain ⟨hop, hTRUN, hTCNT⟩ := pinTick_edge hdet
  obtain ⟨hsame, hEVT⟩ := pinTick_unconfirmed hinv hop
  have hARM : (pinTick (State.powerOn c) c.ACT).ARM = c.ACT := hsame.registers.1
  rw [List.replicate_succ, runPins_cons _ (tickWith_pinWord_of_inv hinv c.ACT)]
  cases k with
  | zero => exact ⟨_, rfl, by rw [if_neg (by omega), hEVT]⟩
  | succ k =>
    have hpress : classify c c.ACT = Event.PRESS := if_pos rfl
    have hwindow := heldEdge_run (pinTick_inv hinv c.ACT) hTRUN hTCNT hARM.symm hk
    rw [hARM] at hwindow
    exact hpress ▸ hwindow

/-- Settles O13: at the inactive level the timer stays idle, and at the active level the window of R146 runs. -/
theorem pressHeldThroughResetIsReported : Obligations.PressHeldThroughResetIsReported := by
  unfold Obligations.PressHeldThroughResetIsReported
  refine fun c hwf => ⟨powerOn_detects c, ?_, fun k => powerOn_pressHeld_run hwf⟩
  have hdet : detects (State.powerOn c) (!c.ACT) = false := by simp [powerOn_detects]
  exact ⟨_, tickWith_pinWord_of_inv (powerOn_inv hwf) (!c.ACT), pinTick_idle hdet rfl⟩

end Sys2Proof.Machine
end
